-- ==== Sys2Proof/Word.lean ====
section
/-!
DEFINITION. The machine's words and the names of its operand fields.

The field types are the values an operand field of the opcode byte can take (spec/30_encoding.md
R104 to R112); the register types are the names of the Register File (spec/10_state.md R22, R23).
-/

namespace Sys2Proof

/-- A memory byte, an 8-bit register (u8 of spec/00_scope.md R12). -/
abbrev Byte := BitVec 8

/-- A 16-bit register, an address (u16 of spec/00_scope.md R12). -/
abbrev Word := BitVec 16

/-- The eight 8-bit registers of the Register File (spec/10_state.md R22). -/
inductive Reg8 where
  | a | f | b | c | d | e | h | l
  deriving DecidableEq, Repr

/-- The six 16-bit registers of the Register File (spec/10_state.md R23). -/
inductive Reg16 where
  | af | bc | de | hl | sp | pc
  deriving DecidableEq, Repr

/-- The operand field `r`: values 0 to 5 and 7 (spec/30_encoding.md R104). F has no value. -/
inductive RField where
  | b | c | d | e | h | l | a
  deriving DecidableEq, Repr

/-- The register an `r` field names. -/
def RField.reg : RField → Reg8
  | .b => .b
  | .c => .c
  | .d => .d
  | .e => .e
  | .h => .h
  | .l => .l
  | .a => .a

/-- The value of an `r` field (spec/30_encoding.md R104). -/
def RField.code : RField → Nat
  | .b => 0
  | .c => 1
  | .d => 2
  | .e => 3
  | .h => 4
  | .l => 5
  | .a => 7

/-- The operand of a CB-prefixed instruction: a register, or the byte at HL (field value 6)
(spec/47_unimplemented_and_ext.md R377). -/
inductive Target where
  | reg (r : RField)
  | mHL
  deriving DecidableEq, Repr

/-- The value of the operand field of a CB-prefixed instruction. -/
def Target.code : Target → Nat
  | .reg r => r.code
  | .mHL => 6

/-- The operand field `rr` (spec/30_encoding.md R105). -/
inductive RRField where
  | bc | de | hl | sp
  deriving DecidableEq, Repr

/-- The register an `rr` field names. -/
def RRField.reg : RRField → Reg16
  | .bc => .bc
  | .de => .de
  | .hl => .hl
  | .sp => .sp

/-- The value of an `rr` field. -/
def RRField.code : RRField → Nat
  | .bc => 0
  | .de => 1
  | .hl => 2
  | .sp => 3

/-- The stack operand field `qq` (spec/30_encoding.md R106). -/
inductive QQField where
  | bc | de | hl | af
  deriving DecidableEq, Repr

/-- The register a `qq` field names. -/
def QQField.reg : QQField → Reg16
  | .bc => .bc
  | .de => .de
  | .hl => .hl
  | .af => .af

/-- The value of a `qq` field. -/
def QQField.code : QQField → Nat
  | .bc => 0
  | .de => 1
  | .hl => 2
  | .af => 3

/-- The condition field `cc` (spec/30_encoding.md R107). -/
inductive Cond where
  | nz | z | nc | c
  deriving DecidableEq, Repr

/-- The value of a `cc` field. -/
def Cond.code : Cond → Nat
  | .nz => 0
  | .z => 1
  | .nc => 2
  | .c => 3

/-- The ALU operation field (spec/30_encoding.md R110), in the order of its values. -/
inductive AluOp where
  | add | adc | sub | sbc | and | xor | or | cp
  deriving DecidableEq, Repr

/-- The value of an ALU operation field. -/
def AluOp.code : AluOp → Nat
  | .add => 0
  | .adc => 1
  | .sub => 2
  | .sbc => 3
  | .and => 4
  | .xor => 5
  | .or => 6
  | .cp => 7

/-- The operation field of the first CB group (spec/30_encoding.md R112), in the order of its
values. -/
inductive ShiftOp where
  | rlc | rrc | rl | rr | sla | sra | swap | srl
  deriving DecidableEq, Repr

/-- The value of a CB operation field. -/
def ShiftOp.code : ShiftOp → Nat
  | .rlc => 0
  | .rrc => 1
  | .rl => 2
  | .rr => 3
  | .sla => 4
  | .sra => 5
  | .swap => 6
  | .srl => 7

end Sys2Proof
end

