-- ==== Sys2Proof/Config.lean ====
section
/-!
DEFINITION. What is fixed for one machine: the parameters of spec/00_scope.md R8 and R9, and the values
that the spec leaves unspecified.

A constant without a body stands for a value the spec does not fix: nothing in Lean can prove
what it is, so whatever is proved holds for every value.
-/

namespace Sys2Proof

/-- How subtract-with-carry adjusts its second operand: the parameter SBC_ADJUST
(spec/00_scope.md R9; spec/40_flag_engine_alu.md R142). -/
inductive SbcAdjust where
  | dec
  | inc
  deriving DecidableEq, Repr, Inhabited

/-- The parameters that the spec leaves to the model's user (spec/00_scope.md R9): they do not change
while the machine runs. DESIGN CHOICE, safe (log 2): they travel in State, because exec has no
other argument. -/
structure Params where
  /-- EXT_LR35902: tier U instructions have their LR35902 effect instead of the fault. -/
  ext : Bool
  /-- SBC_ADJUST. -/
  sbcAdjust : SbcAdjust
  deriving DecidableEq, Repr

namespace Config

/-- MEM_SIZE (R8). -/
def memSize : Nat := 65536

/-- MAX_CARTRIDGE_SIZE (R8). -/
def maxCartridgeSize : Nat := 32768

/-- PROGRAM_REGION_END (R8): the first address no opcode may be fetched from. -/
def programRegionEnd : Nat := 0x8000

/-- IE_ADDR (R8). -/
def ieAddr : Word := 0xFFFF

/-- IF_ADDR (R8). -/
def ifAddr : Word := 0xFF0F

/-- MEM_INIT (R9, decision D10): what a byte that nothing has written reads as (log 8). -/
def memInit : Byte := 0x00

/-- The post-boot register values (R8; spec/10_state.md R38). -/
def resetPC : Word := 0x0100
def resetSP : Word := 0xFFFE
def resetAF : Word := 0x01B0
def resetBC : Word := 0x0013
def resetDE : Word := 0x00D8
def resetHL : Word := 0x014D

/-- CurrentOpcode after reset: any value (spec/10_state.md R32, decision D14), so none stands here
(log 3). -/
opaque resetOpcode : Byte

/-- SBC_ADJUST of the machine at hand: OPEN in the spec (spec/92_eei_decisions.md D8), so no value
stands here (log 2). -/
opaque sbcAdjust : SbcAdjust

/-- The parameters after power-on: EXT_LR35902 at the spec's default, SBC_ADJUST open. -/
def params : Params := { ext := false, sbcAdjust := sbcAdjust }

/-- The 16-bit registers between power-on and the first accepted load: unspecified
(spec/70_reset_and_hazards.md R430), so no values stand here (log 4). -/
opaque powerOnReg : Reg16 → Word

/-- CurrentOpcode between power-on and the first accepted load: unspecified (R430; log 4). -/
opaque powerOnOpcode : Byte

end Config

end Sys2Proof
end

