-- ==== Sys2Proof/Syntax.lean ====
section
/-!
DEFINITION. The instructions: one constructor for each of the 512 rows of spec/opcode_table.json (the
rows with an immediate first, then the others in the table's order), and the instruction forms of spec/30_encoding.md section 7 as functions of their
operand fields.

A constructor's name is its row's mnemonic with the operands joined by `_`; an operand in brackets
has an `m` before it (`ld_A_mHL` is `LD A,(HL)`), `(HL+)` and `(HL-)` are `mHLi` and `mHLd`.
An immediate is an argument: `n` the unsigned byte, `e` the displacement byte as it is encoded,
`nn` the 16-bit immediate (spec/30_encoding.md R108, R109).
-/

namespace Sys2Proof

/-- One constructor per row of spec/opcode_table.json (spec/30_encoding.md R113, R114).
`noInstruction_xx` are the eleven tier X bytes (R115). `prefixCb sub` is the row of the prefix byte
`0xCB` itself with its sub-opcode as an operand (spec/46_cb_prefix_swap.md R340); each sub-opcode also
has a row and a constructor of its own, which is what the decoder gives. -/
inductive Instr where
  -- rows with an immediate operand (they stand first: Lean numbers constructors, and gives those with arguments only small numbers)
  | ld_BC_nn (nn : Word) | ld_B_n (n : Byte) | ld_mnn_SP (nn : Word) | ld_C_n (n : Byte)
  | ld_DE_nn (nn : Word) | ld_D_n (n : Byte) | jr_e (e : Byte) | ld_E_n (n : Byte)
  | jr_NZ_e (e : Byte) | ld_HL_nn (nn : Word) | ld_H_n (n : Byte) | jr_Z_e (e : Byte)
  | ld_L_n (n : Byte) | jr_NC_e (e : Byte) | ld_SP_nn (nn : Word) | ld_mHL_n (n : Byte)
  | jr_C_e (e : Byte) | ld_A_n (n : Byte) | jp_NZ_nn (nn : Word) | jp_nn (nn : Word)
  | call_NZ_nn (nn : Word) | add_A_n (n : Byte) | jp_Z_nn (nn : Word) | prefixCb (sub : Byte)
  | call_Z_nn (nn : Word) | call_nn (nn : Word) | adc_A_n (n : Byte) | jp_NC_nn (nn : Word)
  | call_NC_nn (nn : Word) | sub_n (n : Byte) | jp_C_nn (nn : Word) | call_C_nn (nn : Word)
  | sbc_A_n (n : Byte) | ldh_mn_A (n : Byte) | and_n (n : Byte) | add_SP_e (e : Byte)
  | ld_mnn_A (nn : Word) | xor_n (n : Byte) | ldh_A_mn (n : Byte) | or_n (n : Byte)
  | ld_HL_SPe (e : Byte) | ld_A_mnn (nn : Word) | cp_n (n : Byte)
  -- first bytes 0x00 to 0x0F
  | nop | ld_mBC_A | inc_BC | inc_B | dec_B | rlca | add_HL_BC | ld_A_mBC | dec_BC | inc_C | dec_C
  | rrca
  -- first bytes 0x10 to 0x1F
  | stop | ld_mDE_A | inc_DE | inc_D | dec_D | rla | add_HL_DE | ld_A_mDE | dec_DE | inc_E | dec_E
  | rra
  -- first bytes 0x20 to 0x2F
  | ld_mHLi_A | inc_HL | inc_H | dec_H | daa | add_HL_HL | ld_A_mHLi | dec_HL | inc_L | dec_L | cpl
  -- first bytes 0x30 to 0x3F
  | ld_mHLd_A | inc_SP | inc_mHL | dec_mHL | scf | add_HL_SP | ld_A_mHLd | dec_SP | inc_A | dec_A
  | ccf
  -- first bytes 0x40 to 0x4F
  | ld_B_B | ld_B_C | ld_B_D | ld_B_E | ld_B_H | ld_B_L | ld_B_mHL | ld_B_A | ld_C_B | ld_C_C
  | ld_C_D | ld_C_E | ld_C_H | ld_C_L | ld_C_mHL | ld_C_A
  -- first bytes 0x50 to 0x5F
  | ld_D_B | ld_D_C | ld_D_D | ld_D_E | ld_D_H | ld_D_L | ld_D_mHL | ld_D_A | ld_E_B | ld_E_C
  | ld_E_D | ld_E_E | ld_E_H | ld_E_L | ld_E_mHL | ld_E_A
  -- first bytes 0x60 to 0x6F
  | ld_H_B | ld_H_C | ld_H_D | ld_H_E | ld_H_H | ld_H_L | ld_H_mHL | ld_H_A | ld_L_B | ld_L_C
  | ld_L_D | ld_L_E | ld_L_H | ld_L_L | ld_L_mHL | ld_L_A
  -- first bytes 0x70 to 0x7F
  | ld_mHL_B | ld_mHL_C | ld_mHL_D | ld_mHL_E | ld_mHL_H | ld_mHL_L | halt | ld_mHL_A | ld_A_B
  | ld_A_C | ld_A_D | ld_A_E | ld_A_H | ld_A_L | ld_A_mHL | ld_A_A
  -- first bytes 0x80 to 0x8F
  | add_A_B | add_A_C | add_A_D | add_A_E | add_A_H | add_A_L | add_A_mHL | add_A_A | adc_A_B
  | adc_A_C | adc_A_D | adc_A_E | adc_A_H | adc_A_L | adc_A_mHL | adc_A_A
  -- first bytes 0x90 to 0x9F
  | sub_B | sub_C | sub_D | sub_E | sub_H | sub_L | sub_mHL | sub_A | sbc_A_B | sbc_A_C | sbc_A_D
  | sbc_A_E | sbc_A_H | sbc_A_L | sbc_A_mHL | sbc_A_A
  -- first bytes 0xA0 to 0xAF
  | and_B | and_C | and_D | and_E | and_H | and_L | and_mHL | and_A | xor_B | xor_C | xor_D | xor_E
  | xor_H | xor_L | xor_mHL | xor_A
  -- first bytes 0xB0 to 0xBF
  | or_B | or_C | or_D | or_E | or_H | or_L | or_mHL | or_A | cp_B | cp_C | cp_D | cp_E | cp_H
  | cp_L | cp_mHL | cp_A
  -- first bytes 0xC0 to 0xCF
  | ret_NZ | pop_BC | push_BC | rst_00H | ret_Z | ret | rst_08H
  -- first bytes 0xD0 to 0xDF
  | ret_NC | pop_DE | noInstruction_D3 | push_DE | rst_10H | ret_C | reti | noInstruction_DB
  | noInstruction_DD | rst_18H
  -- first bytes 0xE0 to 0xEF
  | pop_HL | ld_mC_A | noInstruction_E3 | noInstruction_E4 | push_HL | rst_20H | jp_HL
  | noInstruction_EB | noInstruction_EC | noInstruction_ED | rst_28H
  -- first bytes 0xF0 to 0xFF
  | pop_AF | ld_A_mC | di | noInstruction_F4 | push_AF | rst_30H | ld_SP_HL | ei | noInstruction_FC
  | noInstruction_FD | rst_38H
  -- 0xCB, then 0x00 to 0x0F
  | rlc_B | rlc_C | rlc_D | rlc_E | rlc_H | rlc_L | rlc_mHL | rlc_A | rrc_B | rrc_C | rrc_D | rrc_E
  | rrc_H | rrc_L | rrc_mHL | rrc_A
  -- 0xCB, then 0x10 to 0x1F
  | rl_B | rl_C | rl_D | rl_E | rl_H | rl_L | rl_mHL | rl_A | rr_B | rr_C | rr_D | rr_E | rr_H
  | rr_L | rr_mHL | rr_A
  -- 0xCB, then 0x20 to 0x2F
  | sla_B | sla_C | sla_D | sla_E | sla_H | sla_L | sla_mHL | sla_A | sra_B | sra_C | sra_D | sra_E
  | sra_H | sra_L | sra_mHL | sra_A
  -- 0xCB, then 0x30 to 0x3F
  | swap_B | swap_C | swap_D | swap_E | swap_H | swap_L | swap_mHL | swap_A | srl_B | srl_C | srl_D
  | srl_E | srl_H | srl_L | srl_mHL | srl_A
  -- 0xCB, then 0x40 to 0x4F
  | bit_0_B | bit_0_C | bit_0_D | bit_0_E | bit_0_H | bit_0_L | bit_0_mHL | bit_0_A | bit_1_B
  | bit_1_C | bit_1_D | bit_1_E | bit_1_H | bit_1_L | bit_1_mHL | bit_1_A
  -- 0xCB, then 0x50 to 0x5F
  | bit_2_B | bit_2_C | bit_2_D | bit_2_E | bit_2_H | bit_2_L | bit_2_mHL | bit_2_A | bit_3_B
  | bit_3_C | bit_3_D | bit_3_E | bit_3_H | bit_3_L | bit_3_mHL | bit_3_A
  -- 0xCB, then 0x60 to 0x6F
  | bit_4_B | bit_4_C | bit_4_D | bit_4_E | bit_4_H | bit_4_L | bit_4_mHL | bit_4_A | bit_5_B
  | bit_5_C | bit_5_D | bit_5_E | bit_5_H | bit_5_L | bit_5_mHL | bit_5_A
  -- 0xCB, then 0x70 to 0x7F
  | bit_6_B | bit_6_C | bit_6_D | bit_6_E | bit_6_H | bit_6_L | bit_6_mHL | bit_6_A | bit_7_B
  | bit_7_C | bit_7_D | bit_7_E | bit_7_H | bit_7_L | bit_7_mHL | bit_7_A
  -- 0xCB, then 0x80 to 0x8F
  | res_0_B | res_0_C | res_0_D | res_0_E | res_0_H | res_0_L | res_0_mHL | res_0_A | res_1_B
  | res_1_C | res_1_D | res_1_E | res_1_H | res_1_L | res_1_mHL | res_1_A
  -- 0xCB, then 0x90 to 0x9F
  | res_2_B | res_2_C | res_2_D | res_2_E | res_2_H | res_2_L | res_2_mHL | res_2_A | res_3_B
  | res_3_C | res_3_D | res_3_E | res_3_H | res_3_L | res_3_mHL | res_3_A
  -- 0xCB, then 0xA0 to 0xAF
  | res_4_B | res_4_C | res_4_D | res_4_E | res_4_H | res_4_L | res_4_mHL | res_4_A | res_5_B
  | res_5_C | res_5_D | res_5_E | res_5_H | res_5_L | res_5_mHL | res_5_A
  -- 0xCB, then 0xB0 to 0xBF
  | res_6_B | res_6_C | res_6_D | res_6_E | res_6_H | res_6_L | res_6_mHL | res_6_A | res_7_B
  | res_7_C | res_7_D | res_7_E | res_7_H | res_7_L | res_7_mHL | res_7_A
  -- 0xCB, then 0xC0 to 0xCF
  | set_0_B | set_0_C | set_0_D | set_0_E | set_0_H | set_0_L | set_0_mHL | set_0_A | set_1_B
  | set_1_C | set_1_D | set_1_E | set_1_H | set_1_L | set_1_mHL | set_1_A
  -- 0xCB, then 0xD0 to 0xDF
  | set_2_B | set_2_C | set_2_D | set_2_E | set_2_H | set_2_L | set_2_mHL | set_2_A | set_3_B
  | set_3_C | set_3_D | set_3_E | set_3_H | set_3_L | set_3_mHL | set_3_A
  -- 0xCB, then 0xE0 to 0xEF
  | set_4_B | set_4_C | set_4_D | set_4_E | set_4_H | set_4_L | set_4_mHL | set_4_A | set_5_B
  | set_5_C | set_5_D | set_5_E | set_5_H | set_5_L | set_5_mHL | set_5_A
  -- 0xCB, then 0xF0 to 0xFF
  | set_6_B | set_6_C | set_6_D | set_6_E | set_6_H | set_6_L | set_6_mHL | set_6_A | set_7_B
  | set_7_C | set_7_D | set_7_E | set_7_H | set_7_L | set_7_mHL | set_7_A
  deriving DecidableEq, Repr

/-! ## The instruction forms of spec/30_encoding.md section 7, by their operand fields -/

/-- `LD r,r'` (spec/42_loads_stores_stack.md R201). -/
def Instr.ldRR : RField → RField → Instr
  | .b, .b => .ld_B_B
  | .b, .c => .ld_B_C
  | .b, .d => .ld_B_D
  | .b, .e => .ld_B_E
  | .b, .h => .ld_B_H
  | .b, .l => .ld_B_L
  | .b, .a => .ld_B_A
  | .c, .b => .ld_C_B
  | .c, .c => .ld_C_C
  | .c, .d => .ld_C_D
  | .c, .e => .ld_C_E
  | .c, .h => .ld_C_H
  | .c, .l => .ld_C_L
  | .c, .a => .ld_C_A
  | .d, .b => .ld_D_B
  | .d, .c => .ld_D_C
  | .d, .d => .ld_D_D
  | .d, .e => .ld_D_E
  | .d, .h => .ld_D_H
  | .d, .l => .ld_D_L
  | .d, .a => .ld_D_A
  | .e, .b => .ld_E_B
  | .e, .c => .ld_E_C
  | .e, .d => .ld_E_D
  | .e, .e => .ld_E_E
  | .e, .h => .ld_E_H
  | .e, .l => .ld_E_L
  | .e, .a => .ld_E_A
  | .h, .b => .ld_H_B
  | .h, .c => .ld_H_C
  | .h, .d => .ld_H_D
  | .h, .e => .ld_H_E
  | .h, .h => .ld_H_H
  | .h, .l => .ld_H_L
  | .h, .a => .ld_H_A
  | .l, .b => .ld_L_B
  | .l, .c => .ld_L_C
  | .l, .d => .ld_L_D
  | .l, .e => .ld_L_E
  | .l, .h => .ld_L_H
  | .l, .l => .ld_L_L
  | .l, .a => .ld_L_A
  | .a, .b => .ld_A_B
  | .a, .c => .ld_A_C
  | .a, .d => .ld_A_D
  | .a, .e => .ld_A_E
  | .a, .h => .ld_A_H
  | .a, .l => .ld_A_L
  | .a, .a => .ld_A_A

/-- `LD r,n` (R202). -/
def Instr.ldRN : RField → Byte → Instr
  | .b, n => .ld_B_n n
  | .c, n => .ld_C_n n
  | .d, n => .ld_D_n n
  | .e, n => .ld_E_n n
  | .h, n => .ld_H_n n
  | .l, n => .ld_L_n n
  | .a, n => .ld_A_n n

/-- `LD r,(HL)` (R203). -/
def Instr.ldRMem : RField → Instr
  | .b => .ld_B_mHL
  | .c => .ld_C_mHL
  | .d => .ld_D_mHL
  | .e => .ld_E_mHL
  | .h => .ld_H_mHL
  | .l => .ld_L_mHL
  | .a => .ld_A_mHL

/-- `LD (HL),r` (R204). -/
def Instr.ldMemR : RField → Instr
  | .b => .ld_mHL_B
  | .c => .ld_mHL_C
  | .d => .ld_mHL_D
  | .e => .ld_mHL_E
  | .h => .ld_mHL_H
  | .l => .ld_mHL_L
  | .a => .ld_mHL_A

/-- `LD rr,nn` (R220). -/
def Instr.ldPairNN : RRField → Word → Instr
  | .bc, nn => .ld_BC_nn nn
  | .de, nn => .ld_DE_nn nn
  | .hl, nn => .ld_HL_nn nn
  | .sp, nn => .ld_SP_nn nn

/-- `PUSH qq` (R224). -/
def Instr.push : QQField → Instr
  | .bc => .push_BC
  | .de => .push_DE
  | .hl => .push_HL
  | .af => .push_AF

/-- `POP qq` and `POP AF` (R225, R226). -/
def Instr.pop : QQField → Instr
  | .bc => .pop_BC
  | .de => .pop_DE
  | .hl => .pop_HL
  | .af => .pop_AF

/-- `ALU A,r` for the eight ALU operations (spec/43_arith8.md R261 to R282). -/
def Instr.aluR : AluOp → RField → Instr
  | .add, .b => .add_A_B
  | .add, .c => .add_A_C
  | .add, .d => .add_A_D
  | .add, .e => .add_A_E
  | .add, .h => .add_A_H
  | .add, .l => .add_A_L
  | .add, .a => .add_A_A
  | .adc, .b => .adc_A_B
  | .adc, .c => .adc_A_C
  | .adc, .d => .adc_A_D
  | .adc, .e => .adc_A_E
  | .adc, .h => .adc_A_H
  | .adc, .l => .adc_A_L
  | .adc, .a => .adc_A_A
  | .sub, .b => .sub_B
  | .sub, .c => .sub_C
  | .sub, .d => .sub_D
  | .sub, .e => .sub_E
  | .sub, .h => .sub_H
  | .sub, .l => .sub_L
  | .sub, .a => .sub_A
  | .sbc, .b => .sbc_A_B
  | .sbc, .c => .sbc_A_C
  | .sbc, .d => .sbc_A_D
  | .sbc, .e => .sbc_A_E
  | .sbc, .h => .sbc_A_H
  | .sbc, .l => .sbc_A_L
  | .sbc, .a => .sbc_A_A
  | .and, .b => .and_B
  | .and, .c => .and_C
  | .and, .d => .and_D
  | .and, .e => .and_E
  | .and, .h => .and_H
  | .and, .l => .and_L
  | .and, .a => .and_A
  | .xor, .b => .xor_B
  | .xor, .c => .xor_C
  | .xor, .d => .xor_D
  | .xor, .e => .xor_E
  | .xor, .h => .xor_H
  | .xor, .l => .xor_L
  | .xor, .a => .xor_A
  | .or, .b => .or_B
  | .or, .c => .or_C
  | .or, .d => .or_D
  | .or, .e => .or_E
  | .or, .h => .or_H
  | .or, .l => .or_L
  | .or, .a => .or_A
  | .cp, .b => .cp_B
  | .cp, .c => .cp_C
  | .cp, .d => .cp_D
  | .cp, .e => .cp_E
  | .cp, .h => .cp_H
  | .cp, .l => .cp_L
  | .cp, .a => .cp_A

/-- `ALU A,(HL)` for the eight ALU operations (R262 to R283). -/
def Instr.aluMem : AluOp → Instr
  | .add => .add_A_mHL
  | .adc => .adc_A_mHL
  | .sub => .sub_mHL
  | .sbc => .sbc_A_mHL
  | .and => .and_mHL
  | .xor => .xor_mHL
  | .or => .or_mHL
  | .cp => .cp_mHL

/-- `ALU A,n` for the eight ALU operations (R263 to R284). -/
def Instr.aluN : AluOp → Byte → Instr
  | .add, n => .add_A_n n
  | .adc, n => .adc_A_n n
  | .sub, n => .sub_n n
  | .sbc, n => .sbc_A_n n
  | .and, n => .and_n n
  | .xor, n => .xor_n n
  | .or, n => .or_n n
  | .cp, n => .cp_n n

/-- `INC r` (R285). -/
def Instr.incR : RField → Instr
  | .b => .inc_B
  | .c => .inc_C
  | .d => .inc_D
  | .e => .inc_E
  | .h => .inc_H
  | .l => .inc_L
  | .a => .inc_A

/-- `DEC r` (R286). -/
def Instr.decR : RField → Instr
  | .b => .dec_B
  | .c => .dec_C
  | .d => .dec_D
  | .e => .dec_E
  | .h => .dec_H
  | .l => .dec_L
  | .a => .dec_A

/-- `ADD HL,rr` (spec/44_arith16.md R301). -/
def Instr.addHL : RRField → Instr
  | .bc => .add_HL_BC
  | .de => .add_HL_DE
  | .hl => .add_HL_HL
  | .sp => .add_HL_SP

/-- `INC rr` (R302). -/
def Instr.incPair : RRField → Instr
  | .bc => .inc_BC
  | .de => .inc_DE
  | .hl => .inc_HL
  | .sp => .inc_SP

/-- `DEC rr` (R303). -/
def Instr.decPair : RRField → Instr
  | .bc => .dec_BC
  | .de => .dec_DE
  | .hl => .dec_HL
  | .sp => .dec_SP

/-- `JP cc,nn` (spec/45_control.md R314). -/
def Instr.jpCC : Cond → Word → Instr
  | .nz, nn => .jp_NZ_nn nn
  | .z, nn => .jp_Z_nn nn
  | .nc, nn => .jp_NC_nn nn
  | .c, nn => .jp_C_nn nn

/-- `JR cc,e` (R317). -/
def Instr.jrCC : Cond → Byte → Instr
  | .nz, e => .jr_NZ_e e
  | .z, e => .jr_Z_e e
  | .nc, e => .jr_NC_e e
  | .c, e => .jr_C_e e

/-- `CALL cc,nn` (R319). -/
def Instr.callCC : Cond → Word → Instr
  | .nz, nn => .call_NZ_nn nn
  | .z, nn => .call_Z_nn nn
  | .nc, nn => .call_NC_nn nn
  | .c, nn => .call_C_nn nn

/-- `RET cc` (R321). -/
def Instr.retCC : Cond → Instr
  | .nz => .ret_NZ
  | .z => .ret_Z
  | .nc => .ret_NC
  | .c => .ret_C

/-- `RST t`, by the field `y` with `t = 8 * y` (R323). -/
def Instr.rst : Fin 8 → Instr
  | 0 => .rst_00H
  | 1 => .rst_08H
  | 2 => .rst_10H
  | 3 => .rst_18H
  | 4 => .rst_20H
  | 5 => .rst_28H
  | 6 => .rst_30H
  | 7 => .rst_38H

/-- The rotates, shifts and `SWAP` behind the prefix (spec/47_unimplemented_and_ext.md R367 to R373;
spec/46_cb_prefix_swap.md R341, R342). -/
def Instr.cbShift : ShiftOp → Target → Instr
  | .rlc, .reg .b => .rlc_B
  | .rlc, .reg .c => .rlc_C
  | .rlc, .reg .d => .rlc_D
  | .rlc, .reg .e => .rlc_E
  | .rlc, .reg .h => .rlc_H
  | .rlc, .reg .l => .rlc_L
  | .rlc, .mHL => .rlc_mHL
  | .rlc, .reg .a => .rlc_A
  | .rrc, .reg .b => .rrc_B
  | .rrc, .reg .c => .rrc_C
  | .rrc, .reg .d => .rrc_D
  | .rrc, .reg .e => .rrc_E
  | .rrc, .reg .h => .rrc_H
  | .rrc, .reg .l => .rrc_L
  | .rrc, .mHL => .rrc_mHL
  | .rrc, .reg .a => .rrc_A
  | .rl, .reg .b => .rl_B
  | .rl, .reg .c => .rl_C
  | .rl, .reg .d => .rl_D
  | .rl, .reg .e => .rl_E
  | .rl, .reg .h => .rl_H
  | .rl, .reg .l => .rl_L
  | .rl, .mHL => .rl_mHL
  | .rl, .reg .a => .rl_A
  | .rr, .reg .b => .rr_B
  | .rr, .reg .c => .rr_C
  | .rr, .reg .d => .rr_D
  | .rr, .reg .e => .rr_E
  | .rr, .reg .h => .rr_H
  | .rr, .reg .l => .rr_L
  | .rr, .mHL => .rr_mHL
  | .rr, .reg .a => .rr_A
  | .sla, .reg .b => .sla_B
  | .sla, .reg .c => .sla_C
  | .sla, .reg .d => .sla_D
  | .sla, .reg .e => .sla_E
  | .sla, .reg .h => .sla_H
  | .sla, .reg .l => .sla_L
  | .sla, .mHL => .sla_mHL
  | .sla, .reg .a => .sla_A
  | .sra, .reg .b => .sra_B
  | .sra, .reg .c => .sra_C
  | .sra, .reg .d => .sra_D
  | .sra, .reg .e => .sra_E
  | .sra, .reg .h => .sra_H
  | .sra, .reg .l => .sra_L
  | .sra, .mHL => .sra_mHL
  | .sra, .reg .a => .sra_A
  | .swap, .reg .b => .swap_B
  | .swap, .reg .c => .swap_C
  | .swap, .reg .d => .swap_D
  | .swap, .reg .e => .swap_E
  | .swap, .reg .h => .swap_H
  | .swap, .reg .l => .swap_L
  | .swap, .mHL => .swap_mHL
  | .swap, .reg .a => .swap_A
  | .srl, .reg .b => .srl_B
  | .srl, .reg .c => .srl_C
  | .srl, .reg .d => .srl_D
  | .srl, .reg .e => .srl_E
  | .srl, .reg .h => .srl_H
  | .srl, .reg .l => .srl_L
  | .srl, .mHL => .srl_mHL
  | .srl, .reg .a => .srl_A

/-- `BIT b,t` (R374). -/
def Instr.cbBit : Fin 8 → Target → Instr
  | 0, .reg .b => .bit_0_B
  | 0, .reg .c => .bit_0_C
  | 0, .reg .d => .bit_0_D
  | 0, .reg .e => .bit_0_E
  | 0, .reg .h => .bit_0_H
  | 0, .reg .l => .bit_0_L
  | 0, .mHL => .bit_0_mHL
  | 0, .reg .a => .bit_0_A
  | 1, .reg .b => .bit_1_B
  | 1, .reg .c => .bit_1_C
  | 1, .reg .d => .bit_1_D
  | 1, .reg .e => .bit_1_E
  | 1, .reg .h => .bit_1_H
  | 1, .reg .l => .bit_1_L
  | 1, .mHL => .bit_1_mHL
  | 1, .reg .a => .bit_1_A
  | 2, .reg .b => .bit_2_B
  | 2, .reg .c => .bit_2_C
  | 2, .reg .d => .bit_2_D
  | 2, .reg .e => .bit_2_E
  | 2, .reg .h => .bit_2_H
  | 2, .reg .l => .bit_2_L
  | 2, .mHL => .bit_2_mHL
  | 2, .reg .a => .bit_2_A
  | 3, .reg .b => .bit_3_B
  | 3, .reg .c => .bit_3_C
  | 3, .reg .d => .bit_3_D
  | 3, .reg .e => .bit_3_E
  | 3, .reg .h => .bit_3_H
  | 3, .reg .l => .bit_3_L
  | 3, .mHL => .bit_3_mHL
  | 3, .reg .a => .bit_3_A
  | 4, .reg .b => .bit_4_B
  | 4, .reg .c => .bit_4_C
  | 4, .reg .d => .bit_4_D
  | 4, .reg .e => .bit_4_E
  | 4, .reg .h => .bit_4_H
  | 4, .reg .l => .bit_4_L
  | 4, .mHL => .bit_4_mHL
  | 4, .reg .a => .bit_4_A
  | 5, .reg .b => .bit_5_B
  | 5, .reg .c => .bit_5_C
  | 5, .reg .d => .bit_5_D
  | 5, .reg .e => .bit_5_E
  | 5, .reg .h => .bit_5_H
  | 5, .reg .l => .bit_5_L
  | 5, .mHL => .bit_5_mHL
  | 5, .reg .a => .bit_5_A
  | 6, .reg .b => .bit_6_B
  | 6, .reg .c => .bit_6_C
  | 6, .reg .d => .bit_6_D
  | 6, .reg .e => .bit_6_E
  | 6, .reg .h => .bit_6_H
  | 6, .reg .l => .bit_6_L
  | 6, .mHL => .bit_6_mHL
  | 6, .reg .a => .bit_6_A
  | 7, .reg .b => .bit_7_B
  | 7, .reg .c => .bit_7_C
  | 7, .reg .d => .bit_7_D
  | 7, .reg .e => .bit_7_E
  | 7, .reg .h => .bit_7_H
  | 7, .reg .l => .bit_7_L
  | 7, .mHL => .bit_7_mHL
  | 7, .reg .a => .bit_7_A

/-- `RES b,t` (R375). -/
def Instr.cbRes : Fin 8 → Target → Instr
  | 0, .reg .b => .res_0_B
  | 0, .reg .c => .res_0_C
  | 0, .reg .d => .res_0_D
  | 0, .reg .e => .res_0_E
  | 0, .reg .h => .res_0_H
  | 0, .reg .l => .res_0_L
  | 0, .mHL => .res_0_mHL
  | 0, .reg .a => .res_0_A
  | 1, .reg .b => .res_1_B
  | 1, .reg .c => .res_1_C
  | 1, .reg .d => .res_1_D
  | 1, .reg .e => .res_1_E
  | 1, .reg .h => .res_1_H
  | 1, .reg .l => .res_1_L
  | 1, .mHL => .res_1_mHL
  | 1, .reg .a => .res_1_A
  | 2, .reg .b => .res_2_B
  | 2, .reg .c => .res_2_C
  | 2, .reg .d => .res_2_D
  | 2, .reg .e => .res_2_E
  | 2, .reg .h => .res_2_H
  | 2, .reg .l => .res_2_L
  | 2, .mHL => .res_2_mHL
  | 2, .reg .a => .res_2_A
  | 3, .reg .b => .res_3_B
  | 3, .reg .c => .res_3_C
  | 3, .reg .d => .res_3_D
  | 3, .reg .e => .res_3_E
  | 3, .reg .h => .res_3_H
  | 3, .reg .l => .res_3_L
  | 3, .mHL => .res_3_mHL
  | 3, .reg .a => .res_3_A
  | 4, .reg .b => .res_4_B
  | 4, .reg .c => .res_4_C
  | 4, .reg .d => .res_4_D
  | 4, .reg .e => .res_4_E
  | 4, .reg .h => .res_4_H
  | 4, .reg .l => .res_4_L
  | 4, .mHL => .res_4_mHL
  | 4, .reg .a => .res_4_A
  | 5, .reg .b => .res_5_B
  | 5, .reg .c => .res_5_C
  | 5, .reg .d => .res_5_D
  | 5, .reg .e => .res_5_E
  | 5, .reg .h => .res_5_H
  | 5, .reg .l => .res_5_L
  | 5, .mHL => .res_5_mHL
  | 5, .reg .a => .res_5_A
  | 6, .reg .b => .res_6_B
  | 6, .reg .c => .res_6_C
  | 6, .reg .d => .res_6_D
  | 6, .reg .e => .res_6_E
  | 6, .reg .h => .res_6_H
  | 6, .reg .l => .res_6_L
  | 6, .mHL => .res_6_mHL
  | 6, .reg .a => .res_6_A
  | 7, .reg .b => .res_7_B
  | 7, .reg .c => .res_7_C
  | 7, .reg .d => .res_7_D
  | 7, .reg .e => .res_7_E
  | 7, .reg .h => .res_7_H
  | 7, .reg .l => .res_7_L
  | 7, .mHL => .res_7_mHL
  | 7, .reg .a => .res_7_A

/-- `SET b,t` (R376). -/
def Instr.cbSet : Fin 8 → Target → Instr
  | 0, .reg .b => .set_0_B
  | 0, .reg .c => .set_0_C
  | 0, .reg .d => .set_0_D
  | 0, .reg .e => .set_0_E
  | 0, .reg .h => .set_0_H
  | 0, .reg .l => .set_0_L
  | 0, .mHL => .set_0_mHL
  | 0, .reg .a => .set_0_A
  | 1, .reg .b => .set_1_B
  | 1, .reg .c => .set_1_C
  | 1, .reg .d => .set_1_D
  | 1, .reg .e => .set_1_E
  | 1, .reg .h => .set_1_H
  | 1, .reg .l => .set_1_L
  | 1, .mHL => .set_1_mHL
  | 1, .reg .a => .set_1_A
  | 2, .reg .b => .set_2_B
  | 2, .reg .c => .set_2_C
  | 2, .reg .d => .set_2_D
  | 2, .reg .e => .set_2_E
  | 2, .reg .h => .set_2_H
  | 2, .reg .l => .set_2_L
  | 2, .mHL => .set_2_mHL
  | 2, .reg .a => .set_2_A
  | 3, .reg .b => .set_3_B
  | 3, .reg .c => .set_3_C
  | 3, .reg .d => .set_3_D
  | 3, .reg .e => .set_3_E
  | 3, .reg .h => .set_3_H
  | 3, .reg .l => .set_3_L
  | 3, .mHL => .set_3_mHL
  | 3, .reg .a => .set_3_A
  | 4, .reg .b => .set_4_B
  | 4, .reg .c => .set_4_C
  | 4, .reg .d => .set_4_D
  | 4, .reg .e => .set_4_E
  | 4, .reg .h => .set_4_H
  | 4, .reg .l => .set_4_L
  | 4, .mHL => .set_4_mHL
  | 4, .reg .a => .set_4_A
  | 5, .reg .b => .set_5_B
  | 5, .reg .c => .set_5_C
  | 5, .reg .d => .set_5_D
  | 5, .reg .e => .set_5_E
  | 5, .reg .h => .set_5_H
  | 5, .reg .l => .set_5_L
  | 5, .mHL => .set_5_mHL
  | 5, .reg .a => .set_5_A
  | 6, .reg .b => .set_6_B
  | 6, .reg .c => .set_6_C
  | 6, .reg .d => .set_6_D
  | 6, .reg .e => .set_6_E
  | 6, .reg .h => .set_6_H
  | 6, .reg .l => .set_6_L
  | 6, .mHL => .set_6_mHL
  | 6, .reg .a => .set_6_A
  | 7, .reg .b => .set_7_B
  | 7, .reg .c => .set_7_C
  | 7, .reg .d => .set_7_D
  | 7, .reg .e => .set_7_E
  | 7, .reg .h => .set_7_H
  | 7, .reg .l => .set_7_L
  | 7, .mHL => .set_7_mHL
  | 7, .reg .a => .set_7_A

end Sys2Proof
end

