-- ==== Sys2Proof/Decode.lean ====
section
/-!
DEFINITION. Decoding and encoding.

`firstMap` is the first-byte map of spec/30_encoding.md R113, row by row and column by column, and
`cbMap` the second-byte map of R114: row `sub[7:3]`, column `sub[2:0]`. Every byte has a cell, so
decoding three bytes never fails; decoding a list of bytes fails only where the list is too short, by
name. `encode` is written from the bytes column of spec/opcode_table.json.
-/

namespace Sys2Proof

/-! ## Bytes of a word -/

/-- `w[15:8]`. -/
def hiByte (w : Word) : Byte := w.extractLsb' 8 8

/-- `w[7:0]`. -/
def loByte (w : Word) : Byte := w.extractLsb' 0 8

/-- `{hi, lo}` (spec/00_scope.md R12). -/
def joinBytes (hi lo : Byte) : Word := hi ++ lo

/-- `sext_16` (spec/00_scope.md R13): an 8-bit displacement widened with its sign. -/
def sext16 (e : Byte) : Word := e.signExtend 16

/-! ## The maps -/

/-- One cell of the first-byte map: the instruction, with the immediates its format reads
(spec/30_encoding.md R102). -/
inductive Slot where
  /-- Format OP: one byte. -/
  | op (i : Instr)
  /-- Format OP_N8: an unsigned byte follows. -/
  | n8 (f : Byte → Instr)
  /-- Format OP_E8: a displacement byte follows. -/
  | e8 (f : Byte → Instr)
  /-- Format OP_N16: two bytes follow, the low one first. -/
  | n16 (f : Word → Instr)
  /-- Format CB_OP: the sub-opcode follows. -/
  | cb

/-- Row `0x` of spec/30_encoding.md R113. -/
def firstRow0 : List Slot :=
  [.op .nop, .n16 .ld_BC_nn, .op .ld_mBC_A, .op .inc_BC, .op .inc_B, .op .dec_B, .n8 .ld_B_n,
   .op .rlca, .n16 .ld_mnn_SP, .op .add_HL_BC, .op .ld_A_mBC, .op .dec_BC, .op .inc_C, .op .dec_C,
   .n8 .ld_C_n, .op .rrca]

/-- Row `1x` of spec/30_encoding.md R113. -/
def firstRow1 : List Slot :=
  [.op .stop, .n16 .ld_DE_nn, .op .ld_mDE_A, .op .inc_DE, .op .inc_D, .op .dec_D, .n8 .ld_D_n,
   .op .rla, .e8 .jr_e, .op .add_HL_DE, .op .ld_A_mDE, .op .dec_DE, .op .inc_E, .op .dec_E,
   .n8 .ld_E_n, .op .rra]

/-- Row `2x` of spec/30_encoding.md R113. -/
def firstRow2 : List Slot :=
  [.e8 .jr_NZ_e, .n16 .ld_HL_nn, .op .ld_mHLi_A, .op .inc_HL, .op .inc_H, .op .dec_H, .n8 .ld_H_n,
   .op .daa, .e8 .jr_Z_e, .op .add_HL_HL, .op .ld_A_mHLi, .op .dec_HL, .op .inc_L, .op .dec_L,
   .n8 .ld_L_n, .op .cpl]

/-- Row `3x` of spec/30_encoding.md R113. -/
def firstRow3 : List Slot :=
  [.e8 .jr_NC_e, .n16 .ld_SP_nn, .op .ld_mHLd_A, .op .inc_SP, .op .inc_mHL, .op .dec_mHL,
   .n8 .ld_mHL_n, .op .scf, .e8 .jr_C_e, .op .add_HL_SP, .op .ld_A_mHLd, .op .dec_SP, .op .inc_A,
   .op .dec_A, .n8 .ld_A_n, .op .ccf]

/-- Row `4x` of spec/30_encoding.md R113. -/
def firstRow4 : List Slot :=
  [.op .ld_B_B, .op .ld_B_C, .op .ld_B_D, .op .ld_B_E, .op .ld_B_H, .op .ld_B_L, .op .ld_B_mHL,
   .op .ld_B_A, .op .ld_C_B, .op .ld_C_C, .op .ld_C_D, .op .ld_C_E, .op .ld_C_H, .op .ld_C_L,
   .op .ld_C_mHL, .op .ld_C_A]

/-- Row `5x` of spec/30_encoding.md R113. -/
def firstRow5 : List Slot :=
  [.op .ld_D_B, .op .ld_D_C, .op .ld_D_D, .op .ld_D_E, .op .ld_D_H, .op .ld_D_L, .op .ld_D_mHL,
   .op .ld_D_A, .op .ld_E_B, .op .ld_E_C, .op .ld_E_D, .op .ld_E_E, .op .ld_E_H, .op .ld_E_L,
   .op .ld_E_mHL, .op .ld_E_A]

/-- Row `6x` of spec/30_encoding.md R113. -/
def firstRow6 : List Slot :=
  [.op .ld_H_B, .op .ld_H_C, .op .ld_H_D, .op .ld_H_E, .op .ld_H_H, .op .ld_H_L, .op .ld_H_mHL,
   .op .ld_H_A, .op .ld_L_B, .op .ld_L_C, .op .ld_L_D, .op .ld_L_E, .op .ld_L_H, .op .ld_L_L,
   .op .ld_L_mHL, .op .ld_L_A]

/-- Row `7x` of spec/30_encoding.md R113. -/
def firstRow7 : List Slot :=
  [.op .ld_mHL_B, .op .ld_mHL_C, .op .ld_mHL_D, .op .ld_mHL_E, .op .ld_mHL_H, .op .ld_mHL_L,
   .op .halt, .op .ld_mHL_A, .op .ld_A_B, .op .ld_A_C, .op .ld_A_D, .op .ld_A_E, .op .ld_A_H,
   .op .ld_A_L, .op .ld_A_mHL, .op .ld_A_A]

/-- Row `8x` of spec/30_encoding.md R113. -/
def firstRow8 : List Slot :=
  [.op .add_A_B, .op .add_A_C, .op .add_A_D, .op .add_A_E, .op .add_A_H, .op .add_A_L,
   .op .add_A_mHL, .op .add_A_A, .op .adc_A_B, .op .adc_A_C, .op .adc_A_D, .op .adc_A_E,
   .op .adc_A_H, .op .adc_A_L, .op .adc_A_mHL, .op .adc_A_A]

/-- Row `9x` of spec/30_encoding.md R113. -/
def firstRow9 : List Slot :=
  [.op .sub_B, .op .sub_C, .op .sub_D, .op .sub_E, .op .sub_H, .op .sub_L, .op .sub_mHL,
   .op .sub_A, .op .sbc_A_B, .op .sbc_A_C, .op .sbc_A_D, .op .sbc_A_E, .op .sbc_A_H, .op .sbc_A_L,
   .op .sbc_A_mHL, .op .sbc_A_A]

/-- Row `Ax` of spec/30_encoding.md R113. -/
def firstRowA : List Slot :=
  [.op .and_B, .op .and_C, .op .and_D, .op .and_E, .op .and_H, .op .and_L, .op .and_mHL,
   .op .and_A, .op .xor_B, .op .xor_C, .op .xor_D, .op .xor_E, .op .xor_H, .op .xor_L,
   .op .xor_mHL, .op .xor_A]

/-- Row `Bx` of spec/30_encoding.md R113. -/
def firstRowB : List Slot :=
  [.op .or_B, .op .or_C, .op .or_D, .op .or_E, .op .or_H, .op .or_L, .op .or_mHL, .op .or_A,
   .op .cp_B, .op .cp_C, .op .cp_D, .op .cp_E, .op .cp_H, .op .cp_L, .op .cp_mHL, .op .cp_A]

/-- Row `Cx` of spec/30_encoding.md R113. -/
def firstRowC : List Slot :=
  [.op .ret_NZ, .op .pop_BC, .n16 .jp_NZ_nn, .n16 .jp_nn, .n16 .call_NZ_nn, .op .push_BC,
   .n8 .add_A_n, .op .rst_00H, .op .ret_Z, .op .ret, .n16 .jp_Z_nn, .cb, .n16 .call_Z_nn,
   .n16 .call_nn, .n8 .adc_A_n, .op .rst_08H]

/-- Row `Dx` of spec/30_encoding.md R113. -/
def firstRowD : List Slot :=
  [.op .ret_NC, .op .pop_DE, .n16 .jp_NC_nn, .op .noInstruction_D3, .n16 .call_NC_nn, .op .push_DE,
   .n8 .sub_n, .op .rst_10H, .op .ret_C, .op .reti, .n16 .jp_C_nn, .op .noInstruction_DB,
   .n16 .call_C_nn, .op .noInstruction_DD, .n8 .sbc_A_n, .op .rst_18H]

/-- Row `Ex` of spec/30_encoding.md R113. -/
def firstRowE : List Slot :=
  [.n8 .ldh_mn_A, .op .pop_HL, .op .ld_mC_A, .op .noInstruction_E3, .op .noInstruction_E4,
   .op .push_HL, .n8 .and_n, .op .rst_20H, .e8 .add_SP_e, .op .jp_HL, .n16 .ld_mnn_A,
   .op .noInstruction_EB, .op .noInstruction_EC, .op .noInstruction_ED, .n8 .xor_n, .op .rst_28H]

/-- Row `Fx` of spec/30_encoding.md R113. -/
def firstRowF : List Slot :=
  [.n8 .ldh_A_mn, .op .pop_AF, .op .ld_A_mC, .op .di, .op .noInstruction_F4, .op .push_AF,
   .n8 .or_n, .op .rst_30H, .e8 .ld_HL_SPe, .op .ld_SP_HL, .n16 .ld_A_mnn, .op .ei,
   .op .noInstruction_FC, .op .noInstruction_FD, .n8 .cp_n, .op .rst_38H]

/-- The first-byte map: row the high digit, column the low digit (R113). -/
def firstMap : List (List Slot) :=
  [firstRow0, firstRow1, firstRow2, firstRow3,
   firstRow4, firstRow5, firstRow6, firstRow7,
   firstRow8, firstRow9, firstRowA, firstRowB,
   firstRowC, firstRowD, firstRowE, firstRowF]

/-! Rows `sub[7:3]` of the second-byte map (R114), each over the operands B, C, D, E, H, L, (HL), A. -/

def cbRow00 : List Instr := [.rlc_B, .rlc_C, .rlc_D, .rlc_E, .rlc_H, .rlc_L, .rlc_mHL, .rlc_A]
def cbRow01 : List Instr := [.rrc_B, .rrc_C, .rrc_D, .rrc_E, .rrc_H, .rrc_L, .rrc_mHL, .rrc_A]
def cbRow02 : List Instr := [.rl_B, .rl_C, .rl_D, .rl_E, .rl_H, .rl_L, .rl_mHL, .rl_A]
def cbRow03 : List Instr := [.rr_B, .rr_C, .rr_D, .rr_E, .rr_H, .rr_L, .rr_mHL, .rr_A]
def cbRow04 : List Instr := [.sla_B, .sla_C, .sla_D, .sla_E, .sla_H, .sla_L, .sla_mHL, .sla_A]
def cbRow05 : List Instr := [.sra_B, .sra_C, .sra_D, .sra_E, .sra_H, .sra_L, .sra_mHL, .sra_A]
def cbRow06 : List Instr := [.swap_B, .swap_C, .swap_D, .swap_E, .swap_H, .swap_L, .swap_mHL, .swap_A]
def cbRow07 : List Instr := [.srl_B, .srl_C, .srl_D, .srl_E, .srl_H, .srl_L, .srl_mHL, .srl_A]
def cbRow08 : List Instr := [.bit_0_B, .bit_0_C, .bit_0_D, .bit_0_E, .bit_0_H, .bit_0_L, .bit_0_mHL, .bit_0_A]
def cbRow09 : List Instr := [.bit_1_B, .bit_1_C, .bit_1_D, .bit_1_E, .bit_1_H, .bit_1_L, .bit_1_mHL, .bit_1_A]
def cbRow10 : List Instr := [.bit_2_B, .bit_2_C, .bit_2_D, .bit_2_E, .bit_2_H, .bit_2_L, .bit_2_mHL, .bit_2_A]
def cbRow11 : List Instr := [.bit_3_B, .bit_3_C, .bit_3_D, .bit_3_E, .bit_3_H, .bit_3_L, .bit_3_mHL, .bit_3_A]
def cbRow12 : List Instr := [.bit_4_B, .bit_4_C, .bit_4_D, .bit_4_E, .bit_4_H, .bit_4_L, .bit_4_mHL, .bit_4_A]
def cbRow13 : List Instr := [.bit_5_B, .bit_5_C, .bit_5_D, .bit_5_E, .bit_5_H, .bit_5_L, .bit_5_mHL, .bit_5_A]
def cbRow14 : List Instr := [.bit_6_B, .bit_6_C, .bit_6_D, .bit_6_E, .bit_6_H, .bit_6_L, .bit_6_mHL, .bit_6_A]
def cbRow15 : List Instr := [.bit_7_B, .bit_7_C, .bit_7_D, .bit_7_E, .bit_7_H, .bit_7_L, .bit_7_mHL, .bit_7_A]
def cbRow16 : List Instr := [.res_0_B, .res_0_C, .res_0_D, .res_0_E, .res_0_H, .res_0_L, .res_0_mHL, .res_0_A]
def cbRow17 : List Instr := [.res_1_B, .res_1_C, .res_1_D, .res_1_E, .res_1_H, .res_1_L, .res_1_mHL, .res_1_A]
def cbRow18 : List Instr := [.res_2_B, .res_2_C, .res_2_D, .res_2_E, .res_2_H, .res_2_L, .res_2_mHL, .res_2_A]
def cbRow19 : List Instr := [.res_3_B, .res_3_C, .res_3_D, .res_3_E, .res_3_H, .res_3_L, .res_3_mHL, .res_3_A]
def cbRow20 : List Instr := [.res_4_B, .res_4_C, .res_4_D, .res_4_E, .res_4_H, .res_4_L, .res_4_mHL, .res_4_A]
def cbRow21 : List Instr := [.res_5_B, .res_5_C, .res_5_D, .res_5_E, .res_5_H, .res_5_L, .res_5_mHL, .res_5_A]
def cbRow22 : List Instr := [.res_6_B, .res_6_C, .res_6_D, .res_6_E, .res_6_H, .res_6_L, .res_6_mHL, .res_6_A]
def cbRow23 : List Instr := [.res_7_B, .res_7_C, .res_7_D, .res_7_E, .res_7_H, .res_7_L, .res_7_mHL, .res_7_A]
def cbRow24 : List Instr := [.set_0_B, .set_0_C, .set_0_D, .set_0_E, .set_0_H, .set_0_L, .set_0_mHL, .set_0_A]
/-- `SET 1,t`. DEDUCED, unsafe (log 16): the row of sub-opcode `0xCB` is `SET 1,E`, as R112, R114 and
the opcode table have it (R103 makes them the normative decode), where R118 calls it `RES 1,E`. -/
def cbRow25 : List Instr := [.set_1_B, .set_1_C, .set_1_D, .set_1_E, .set_1_H, .set_1_L, .set_1_mHL, .set_1_A]
def cbRow26 : List Instr := [.set_2_B, .set_2_C, .set_2_D, .set_2_E, .set_2_H, .set_2_L, .set_2_mHL, .set_2_A]
def cbRow27 : List Instr := [.set_3_B, .set_3_C, .set_3_D, .set_3_E, .set_3_H, .set_3_L, .set_3_mHL, .set_3_A]
def cbRow28 : List Instr := [.set_4_B, .set_4_C, .set_4_D, .set_4_E, .set_4_H, .set_4_L, .set_4_mHL, .set_4_A]
def cbRow29 : List Instr := [.set_5_B, .set_5_C, .set_5_D, .set_5_E, .set_5_H, .set_5_L, .set_5_mHL, .set_5_A]
def cbRow30 : List Instr := [.set_6_B, .set_6_C, .set_6_D, .set_6_E, .set_6_H, .set_6_L, .set_6_mHL, .set_6_A]
def cbRow31 : List Instr := [.set_7_B, .set_7_C, .set_7_D, .set_7_E, .set_7_H, .set_7_L, .set_7_mHL, .set_7_A]

/-- The second-byte map (R114). -/
def cbMap : List (List Instr) :=
  [cbRow00, cbRow01, cbRow02, cbRow03, cbRow04, cbRow05, cbRow06, cbRow07,
   cbRow08, cbRow09, cbRow10, cbRow11, cbRow12, cbRow13, cbRow14, cbRow15,
   cbRow16, cbRow17, cbRow18, cbRow19, cbRow20, cbRow21, cbRow22, cbRow23,
   cbRow24, cbRow25, cbRow26, cbRow27, cbRow28, cbRow29, cbRow30, cbRow31]

/-- The cell of a first byte (R113). -/
def slotOf (op : Byte) : Slot := (firstMap.getD (op.toNat / 16) []).getD (op.toNat % 16) (.op .nop)

/-- The instruction of a sub-opcode (R114). -/
def cbInstr (sub : Byte) : Instr := (cbMap.getD (sub.toNat / 8) []).getD (sub.toNat % 8) .nop

/-- The length in bytes of a format (R102). -/
def Slot.length : Slot → Nat
  | .op _ => 1
  | .n8 _ => 2
  | .e8 _ => 2
  | .n16 _ => 3
  | .cb => 2

/-- The instruction of a cell with the two bytes after the opcode byte (R102, R108, R109, R118). -/
def Slot.instr (b1 b2 : Byte) : Slot → Instr
  | .op i => i
  | .n8 f => f b1
  | .e8 f => f b1
  | .n16 f => f (joinBytes b2 b1)
  | .cb => cbInstr b1

/-- The length of an instruction, a function of its first byte alone (R102). -/
def lengthOf (op : Byte) : Nat := (slotOf op).length

/-- The instruction that three bytes begin with: every byte value has one (R113, R114;
spec/41_step_and_dispatch.md R173). -/
def decodeAt (op b1 b2 : Byte) : Instr := (slotOf op).instr b1 b2

/-- Why a list of bytes is no instruction. -/
inductive DecodeError where
  /-- There is no byte. -/
  | noBytes
  /-- The opcode byte is there and its operand bytes are not all there. -/
  | operandBytesMissing (op : Byte)
  deriving DecidableEq, Repr

/-- The instruction at the front of a list of bytes, and the bytes after it. -/
def decode : List Byte → Except DecodeError (Instr × List Byte)
  | [] => .error .noBytes
  | op :: rest =>
    if rest.length + 1 < lengthOf op then .error (.operandBytesMissing op)
    else .ok (decodeAt op (rest.getD 0 0) (rest.getD 1 0), rest.drop (lengthOf op - 1))

/-! ## Encoding -/

/-- The bytes of an instruction in memory order, from the bytes column of spec/opcode_table.json. -/
def encode : Instr → List Byte
  | .nop => [0x00]
  | .ld_BC_nn nn => [0x01, loByte nn, hiByte nn]
  | .ld_mBC_A => [0x02]
  | .inc_BC => [0x03]
  | .inc_B => [0x04]
  | .dec_B => [0x05]
  | .ld_B_n n => [0x06, n]
  | .rlca => [0x07]
  | .ld_mnn_SP nn => [0x08, loByte nn, hiByte nn]
  | .add_HL_BC => [0x09]
  | .ld_A_mBC => [0x0A]
  | .dec_BC => [0x0B]
  | .inc_C => [0x0C]
  | .dec_C => [0x0D]
  | .ld_C_n n => [0x0E, n]
  | .rrca => [0x0F]
  | .stop => [0x10]
  | .ld_DE_nn nn => [0x11, loByte nn, hiByte nn]
  | .ld_mDE_A => [0x12]
  | .inc_DE => [0x13]
  | .inc_D => [0x14]
  | .dec_D => [0x15]
  | .ld_D_n n => [0x16, n]
  | .rla => [0x17]
  | .jr_e e => [0x18, e]
  | .add_HL_DE => [0x19]
  | .ld_A_mDE => [0x1A]
  | .dec_DE => [0x1B]
  | .inc_E => [0x1C]
  | .dec_E => [0x1D]
  | .ld_E_n n => [0x1E, n]
  | .rra => [0x1F]
  | .jr_NZ_e e => [0x20, e]
  | .ld_HL_nn nn => [0x21, loByte nn, hiByte nn]
  | .ld_mHLi_A => [0x22]
  | .inc_HL => [0x23]
  | .inc_H => [0x24]
  | .dec_H => [0x25]
  | .ld_H_n n => [0x26, n]
  | .daa => [0x27]
  | .jr_Z_e e => [0x28, e]
  | .add_HL_HL => [0x29]
  | .ld_A_mHLi => [0x2A]
  | .dec_HL => [0x2B]
  | .inc_L => [0x2C]
  | .dec_L => [0x2D]
  | .ld_L_n n => [0x2E, n]
  | .cpl => [0x2F]
  | .jr_NC_e e => [0x30, e]
  | .ld_SP_nn nn => [0x31, loByte nn, hiByte nn]
  | .ld_mHLd_A => [0x32]
  | .inc_SP => [0x33]
  | .inc_mHL => [0x34]
  | .dec_mHL => [0x35]
  | .ld_mHL_n n => [0x36, n]
  | .scf => [0x37]
  | .jr_C_e e => [0x38, e]
  | .add_HL_SP => [0x39]
  | .ld_A_mHLd => [0x3A]
  | .dec_SP => [0x3B]
  | .inc_A => [0x3C]
  | .dec_A => [0x3D]
  | .ld_A_n n => [0x3E, n]
  | .ccf => [0x3F]
  | .ld_B_B => [0x40]
  | .ld_B_C => [0x41]
  | .ld_B_D => [0x42]
  | .ld_B_E => [0x43]
  | .ld_B_H => [0x44]
  | .ld_B_L => [0x45]
  | .ld_B_mHL => [0x46]
  | .ld_B_A => [0x47]
  | .ld_C_B => [0x48]
  | .ld_C_C => [0x49]
  | .ld_C_D => [0x4A]
  | .ld_C_E => [0x4B]
  | .ld_C_H => [0x4C]
  | .ld_C_L => [0x4D]
  | .ld_C_mHL => [0x4E]
  | .ld_C_A => [0x4F]
  | .ld_D_B => [0x50]
  | .ld_D_C => [0x51]
  | .ld_D_D => [0x52]
  | .ld_D_E => [0x53]
  | .ld_D_H => [0x54]
  | .ld_D_L => [0x55]
  | .ld_D_mHL => [0x56]
  | .ld_D_A => [0x57]
  | .ld_E_B => [0x58]
  | .ld_E_C => [0x59]
  | .ld_E_D => [0x5A]
  | .ld_E_E => [0x5B]
  | .ld_E_H => [0x5C]
  | .ld_E_L => [0x5D]
  | .ld_E_mHL => [0x5E]
  | .ld_E_A => [0x5F]
  | .ld_H_B => [0x60]
  | .ld_H_C => [0x61]
  | .ld_H_D => [0x62]
  | .ld_H_E => [0x63]
  | .ld_H_H => [0x64]
  | .ld_H_L => [0x65]
  | .ld_H_mHL => [0x66]
  | .ld_H_A => [0x67]
  | .ld_L_B => [0x68]
  | .ld_L_C => [0x69]
  | .ld_L_D => [0x6A]
  | .ld_L_E => [0x6B]
  | .ld_L_H => [0x6C]
  | .ld_L_L => [0x6D]
  | .ld_L_mHL => [0x6E]
  | .ld_L_A => [0x6F]
  | .ld_mHL_B => [0x70]
  | .ld_mHL_C => [0x71]
  | .ld_mHL_D => [0x72]
  | .ld_mHL_E => [0x73]
  | .ld_mHL_H => [0x74]
  | .ld_mHL_L => [0x75]
  | .halt => [0x76]
  | .ld_mHL_A => [0x77]
  | .ld_A_B => [0x78]
  | .ld_A_C => [0x79]
  | .ld_A_D => [0x7A]
  | .ld_A_E => [0x7B]
  | .ld_A_H => [0x7C]
  | .ld_A_L => [0x7D]
  | .ld_A_mHL => [0x7E]
  | .ld_A_A => [0x7F]
  | .add_A_B => [0x80]
  | .add_A_C => [0x81]
  | .add_A_D => [0x82]
  | .add_A_E => [0x83]
  | .add_A_H => [0x84]
  | .add_A_L => [0x85]
  | .add_A_mHL => [0x86]
  | .add_A_A => [0x87]
  | .adc_A_B => [0x88]
  | .adc_A_C => [0x89]
  | .adc_A_D => [0x8A]
  | .adc_A_E => [0x8B]
  | .adc_A_H => [0x8C]
  | .adc_A_L => [0x8D]
  | .adc_A_mHL => [0x8E]
  | .adc_A_A => [0x8F]
  | .sub_B => [0x90]
  | .sub_C => [0x91]
  | .sub_D => [0x92]
  | .sub_E => [0x93]
  | .sub_H => [0x94]
  | .sub_L => [0x95]
  | .sub_mHL => [0x96]
  | .sub_A => [0x97]
  | .sbc_A_B => [0x98]
  | .sbc_A_C => [0x99]
  | .sbc_A_D => [0x9A]
  | .sbc_A_E => [0x9B]
  | .sbc_A_H => [0x9C]
  | .sbc_A_L => [0x9D]
  | .sbc_A_mHL => [0x9E]
  | .sbc_A_A => [0x9F]
  | .and_B => [0xA0]
  | .and_C => [0xA1]
  | .and_D => [0xA2]
  | .and_E => [0xA3]
  | .and_H => [0xA4]
  | .and_L => [0xA5]
  | .and_mHL => [0xA6]
  | .and_A => [0xA7]
  | .xor_B => [0xA8]
  | .xor_C => [0xA9]
  | .xor_D => [0xAA]
  | .xor_E => [0xAB]
  | .xor_H => [0xAC]
  | .xor_L => [0xAD]
  | .xor_mHL => [0xAE]
  | .xor_A => [0xAF]
  | .or_B => [0xB0]
  | .or_C => [0xB1]
  | .or_D => [0xB2]
  | .or_E => [0xB3]
  | .or_H => [0xB4]
  | .or_L => [0xB5]
  | .or_mHL => [0xB6]
  | .or_A => [0xB7]
  | .cp_B => [0xB8]
  | .cp_C => [0xB9]
  | .cp_D => [0xBA]
  | .cp_E => [0xBB]
  | .cp_H => [0xBC]
  | .cp_L => [0xBD]
  | .cp_mHL => [0xBE]
  | .cp_A => [0xBF]
  | .ret_NZ => [0xC0]
  | .pop_BC => [0xC1]
  | .jp_NZ_nn nn => [0xC2, loByte nn, hiByte nn]
  | .jp_nn nn => [0xC3, loByte nn, hiByte nn]
  | .call_NZ_nn nn => [0xC4, loByte nn, hiByte nn]
  | .push_BC => [0xC5]
  | .add_A_n n => [0xC6, n]
  | .rst_00H => [0xC7]
  | .ret_Z => [0xC8]
  | .ret => [0xC9]
  | .jp_Z_nn nn => [0xCA, loByte nn, hiByte nn]
  | .prefixCb sub => [0xCB, sub]
  | .call_Z_nn nn => [0xCC, loByte nn, hiByte nn]
  | .call_nn nn => [0xCD, loByte nn, hiByte nn]
  | .adc_A_n n => [0xCE, n]
  | .rst_08H => [0xCF]
  | .ret_NC => [0xD0]
  | .pop_DE => [0xD1]
  | .jp_NC_nn nn => [0xD2, loByte nn, hiByte nn]
  | .noInstruction_D3 => [0xD3]
  | .call_NC_nn nn => [0xD4, loByte nn, hiByte nn]
  | .push_DE => [0xD5]
  | .sub_n n => [0xD6, n]
  | .rst_10H => [0xD7]
  | .ret_C => [0xD8]
  | .reti => [0xD9]
  | .jp_C_nn nn => [0xDA, loByte nn, hiByte nn]
  | .noInstruction_DB => [0xDB]
  | .call_C_nn nn => [0xDC, loByte nn, hiByte nn]
  | .noInstruction_DD => [0xDD]
  | .sbc_A_n n => [0xDE, n]
  | .rst_18H => [0xDF]
  | .ldh_mn_A n => [0xE0, n]
  | .pop_HL => [0xE1]
  | .ld_mC_A => [0xE2]
  | .noInstruction_E3 => [0xE3]
  | .noInstruction_E4 => [0xE4]
  | .push_HL => [0xE5]
  | .and_n n => [0xE6, n]
  | .rst_20H => [0xE7]
  | .add_SP_e e => [0xE8, e]
  | .jp_HL => [0xE9]
  | .ld_mnn_A nn => [0xEA, loByte nn, hiByte nn]
  | .noInstruction_EB => [0xEB]
  | .noInstruction_EC => [0xEC]
  | .noInstruction_ED => [0xED]
  | .xor_n n => [0xEE, n]
  | .rst_28H => [0xEF]
  | .ldh_A_mn n => [0xF0, n]
  | .pop_AF => [0xF1]
  | .ld_A_mC => [0xF2]
  | .di => [0xF3]
  | .noInstruction_F4 => [0xF4]
  | .push_AF => [0xF5]
  | .or_n n => [0xF6, n]
  | .rst_30H => [0xF7]
  | .ld_HL_SPe e => [0xF8, e]
  | .ld_SP_HL => [0xF9]
  | .ld_A_mnn nn => [0xFA, loByte nn, hiByte nn]
  | .ei => [0xFB]
  | .noInstruction_FC => [0xFC]
  | .noInstruction_FD => [0xFD]
  | .cp_n n => [0xFE, n]
  | .rst_38H => [0xFF]
  | .rlc_B => [0xCB, 0x00]
  | .rlc_C => [0xCB, 0x01]
  | .rlc_D => [0xCB, 0x02]
  | .rlc_E => [0xCB, 0x03]
  | .rlc_H => [0xCB, 0x04]
  | .rlc_L => [0xCB, 0x05]
  | .rlc_mHL => [0xCB, 0x06]
  | .rlc_A => [0xCB, 0x07]
  | .rrc_B => [0xCB, 0x08]
  | .rrc_C => [0xCB, 0x09]
  | .rrc_D => [0xCB, 0x0A]
  | .rrc_E => [0xCB, 0x0B]
  | .rrc_H => [0xCB, 0x0C]
  | .rrc_L => [0xCB, 0x0D]
  | .rrc_mHL => [0xCB, 0x0E]
  | .rrc_A => [0xCB, 0x0F]
  | .rl_B => [0xCB, 0x10]
  | .rl_C => [0xCB, 0x11]
  | .rl_D => [0xCB, 0x12]
  | .rl_E => [0xCB, 0x13]
  | .rl_H => [0xCB, 0x14]
  | .rl_L => [0xCB, 0x15]
  | .rl_mHL => [0xCB, 0x16]
  | .rl_A => [0xCB, 0x17]
  | .rr_B => [0xCB, 0x18]
  | .rr_C => [0xCB, 0x19]
  | .rr_D => [0xCB, 0x1A]
  | .rr_E => [0xCB, 0x1B]
  | .rr_H => [0xCB, 0x1C]
  | .rr_L => [0xCB, 0x1D]
  | .rr_mHL => [0xCB, 0x1E]
  | .rr_A => [0xCB, 0x1F]
  | .sla_B => [0xCB, 0x20]
  | .sla_C => [0xCB, 0x21]
  | .sla_D => [0xCB, 0x22]
  | .sla_E => [0xCB, 0x23]
  | .sla_H => [0xCB, 0x24]
  | .sla_L => [0xCB, 0x25]
  | .sla_mHL => [0xCB, 0x26]
  | .sla_A => [0xCB, 0x27]
  | .sra_B => [0xCB, 0x28]
  | .sra_C => [0xCB, 0x29]
  | .sra_D => [0xCB, 0x2A]
  | .sra_E => [0xCB, 0x2B]
  | .sra_H => [0xCB, 0x2C]
  | .sra_L => [0xCB, 0x2D]
  | .sra_mHL => [0xCB, 0x2E]
  | .sra_A => [0xCB, 0x2F]
  | .swap_B => [0xCB, 0x30]
  | .swap_C => [0xCB, 0x31]
  | .swap_D => [0xCB, 0x32]
  | .swap_E => [0xCB, 0x33]
  | .swap_H => [0xCB, 0x34]
  | .swap_L => [0xCB, 0x35]
  | .swap_mHL => [0xCB, 0x36]
  | .swap_A => [0xCB, 0x37]
  | .srl_B => [0xCB, 0x38]
  | .srl_C => [0xCB, 0x39]
  | .srl_D => [0xCB, 0x3A]
  | .srl_E => [0xCB, 0x3B]
  | .srl_H => [0xCB, 0x3C]
  | .srl_L => [0xCB, 0x3D]
  | .srl_mHL => [0xCB, 0x3E]
  | .srl_A => [0xCB, 0x3F]
  | .bit_0_B => [0xCB, 0x40]
  | .bit_0_C => [0xCB, 0x41]
  | .bit_0_D => [0xCB, 0x42]
  | .bit_0_E => [0xCB, 0x43]
  | .bit_0_H => [0xCB, 0x44]
  | .bit_0_L => [0xCB, 0x45]
  | .bit_0_mHL => [0xCB, 0x46]
  | .bit_0_A => [0xCB, 0x47]
  | .bit_1_B => [0xCB, 0x48]
  | .bit_1_C => [0xCB, 0x49]
  | .bit_1_D => [0xCB, 0x4A]
  | .bit_1_E => [0xCB, 0x4B]
  | .bit_1_H => [0xCB, 0x4C]
  | .bit_1_L => [0xCB, 0x4D]
  | .bit_1_mHL => [0xCB, 0x4E]
  | .bit_1_A => [0xCB, 0x4F]
  | .bit_2_B => [0xCB, 0x50]
  | .bit_2_C => [0xCB, 0x51]
  | .bit_2_D => [0xCB, 0x52]
  | .bit_2_E => [0xCB, 0x53]
  | .bit_2_H => [0xCB, 0x54]
  | .bit_2_L => [0xCB, 0x55]
  | .bit_2_mHL => [0xCB, 0x56]
  | .bit_2_A => [0xCB, 0x57]
  | .bit_3_B => [0xCB, 0x58]
  | .bit_3_C => [0xCB, 0x59]
  | .bit_3_D => [0xCB, 0x5A]
  | .bit_3_E => [0xCB, 0x5B]
  | .bit_3_H => [0xCB, 0x5C]
  | .bit_3_L => [0xCB, 0x5D]
  | .bit_3_mHL => [0xCB, 0x5E]
  | .bit_3_A => [0xCB, 0x5F]
  | .bit_4_B => [0xCB, 0x60]
  | .bit_4_C => [0xCB, 0x61]
  | .bit_4_D => [0xCB, 0x62]
  | .bit_4_E => [0xCB, 0x63]
  | .bit_4_H => [0xCB, 0x64]
  | .bit_4_L => [0xCB, 0x65]
  | .bit_4_mHL => [0xCB, 0x66]
  | .bit_4_A => [0xCB, 0x67]
  | .bit_5_B => [0xCB, 0x68]
  | .bit_5_C => [0xCB, 0x69]
  | .bit_5_D => [0xCB, 0x6A]
  | .bit_5_E => [0xCB, 0x6B]
  | .bit_5_H => [0xCB, 0x6C]
  | .bit_5_L => [0xCB, 0x6D]
  | .bit_5_mHL => [0xCB, 0x6E]
  | .bit_5_A => [0xCB, 0x6F]
  | .bit_6_B => [0xCB, 0x70]
  | .bit_6_C => [0xCB, 0x71]
  | .bit_6_D => [0xCB, 0x72]
  | .bit_6_E => [0xCB, 0x73]
  | .bit_6_H => [0xCB, 0x74]
  | .bit_6_L => [0xCB, 0x75]
  | .bit_6_mHL => [0xCB, 0x76]
  | .bit_6_A => [0xCB, 0x77]
  | .bit_7_B => [0xCB, 0x78]
  | .bit_7_C => [0xCB, 0x79]
  | .bit_7_D => [0xCB, 0x7A]
  | .bit_7_E => [0xCB, 0x7B]
  | .bit_7_H => [0xCB, 0x7C]
  | .bit_7_L => [0xCB, 0x7D]
  | .bit_7_mHL => [0xCB, 0x7E]
  | .bit_7_A => [0xCB, 0x7F]
  | .res_0_B => [0xCB, 0x80]
  | .res_0_C => [0xCB, 0x81]
  | .res_0_D => [0xCB, 0x82]
  | .res_0_E => [0xCB, 0x83]
  | .res_0_H => [0xCB, 0x84]
  | .res_0_L => [0xCB, 0x85]
  | .res_0_mHL => [0xCB, 0x86]
  | .res_0_A => [0xCB, 0x87]
  | .res_1_B => [0xCB, 0x88]
  | .res_1_C => [0xCB, 0x89]
  | .res_1_D => [0xCB, 0x8A]
  | .res_1_E => [0xCB, 0x8B]
  | .res_1_H => [0xCB, 0x8C]
  | .res_1_L => [0xCB, 0x8D]
  | .res_1_mHL => [0xCB, 0x8E]
  | .res_1_A => [0xCB, 0x8F]
  | .res_2_B => [0xCB, 0x90]
  | .res_2_C => [0xCB, 0x91]
  | .res_2_D => [0xCB, 0x92]
  | .res_2_E => [0xCB, 0x93]
  | .res_2_H => [0xCB, 0x94]
  | .res_2_L => [0xCB, 0x95]
  | .res_2_mHL => [0xCB, 0x96]
  | .res_2_A => [0xCB, 0x97]
  | .res_3_B => [0xCB, 0x98]
  | .res_3_C => [0xCB, 0x99]
  | .res_3_D => [0xCB, 0x9A]
  | .res_3_E => [0xCB, 0x9B]
  | .res_3_H => [0xCB, 0x9C]
  | .res_3_L => [0xCB, 0x9D]
  | .res_3_mHL => [0xCB, 0x9E]
  | .res_3_A => [0xCB, 0x9F]
  | .res_4_B => [0xCB, 0xA0]
  | .res_4_C => [0xCB, 0xA1]
  | .res_4_D => [0xCB, 0xA2]
  | .res_4_E => [0xCB, 0xA3]
  | .res_4_H => [0xCB, 0xA4]
  | .res_4_L => [0xCB, 0xA5]
  | .res_4_mHL => [0xCB, 0xA6]
  | .res_4_A => [0xCB, 0xA7]
  | .res_5_B => [0xCB, 0xA8]
  | .res_5_C => [0xCB, 0xA9]
  | .res_5_D => [0xCB, 0xAA]
  | .res_5_E => [0xCB, 0xAB]
  | .res_5_H => [0xCB, 0xAC]
  | .res_5_L => [0xCB, 0xAD]
  | .res_5_mHL => [0xCB, 0xAE]
  | .res_5_A => [0xCB, 0xAF]
  | .res_6_B => [0xCB, 0xB0]
  | .res_6_C => [0xCB, 0xB1]
  | .res_6_D => [0xCB, 0xB2]
  | .res_6_E => [0xCB, 0xB3]
  | .res_6_H => [0xCB, 0xB4]
  | .res_6_L => [0xCB, 0xB5]
  | .res_6_mHL => [0xCB, 0xB6]
  | .res_6_A => [0xCB, 0xB7]
  | .res_7_B => [0xCB, 0xB8]
  | .res_7_C => [0xCB, 0xB9]
  | .res_7_D => [0xCB, 0xBA]
  | .res_7_E => [0xCB, 0xBB]
  | .res_7_H => [0xCB, 0xBC]
  | .res_7_L => [0xCB, 0xBD]
  | .res_7_mHL => [0xCB, 0xBE]
  | .res_7_A => [0xCB, 0xBF]
  | .set_0_B => [0xCB, 0xC0]
  | .set_0_C => [0xCB, 0xC1]
  | .set_0_D => [0xCB, 0xC2]
  | .set_0_E => [0xCB, 0xC3]
  | .set_0_H => [0xCB, 0xC4]
  | .set_0_L => [0xCB, 0xC5]
  | .set_0_mHL => [0xCB, 0xC6]
  | .set_0_A => [0xCB, 0xC7]
  | .set_1_B => [0xCB, 0xC8]
  | .set_1_C => [0xCB, 0xC9]
  | .set_1_D => [0xCB, 0xCA]
  | .set_1_E => [0xCB, 0xCB]
  | .set_1_H => [0xCB, 0xCC]
  | .set_1_L => [0xCB, 0xCD]
  | .set_1_mHL => [0xCB, 0xCE]
  | .set_1_A => [0xCB, 0xCF]
  | .set_2_B => [0xCB, 0xD0]
  | .set_2_C => [0xCB, 0xD1]
  | .set_2_D => [0xCB, 0xD2]
  | .set_2_E => [0xCB, 0xD3]
  | .set_2_H => [0xCB, 0xD4]
  | .set_2_L => [0xCB, 0xD5]
  | .set_2_mHL => [0xCB, 0xD6]
  | .set_2_A => [0xCB, 0xD7]
  | .set_3_B => [0xCB, 0xD8]
  | .set_3_C => [0xCB, 0xD9]
  | .set_3_D => [0xCB, 0xDA]
  | .set_3_E => [0xCB, 0xDB]
  | .set_3_H => [0xCB, 0xDC]
  | .set_3_L => [0xCB, 0xDD]
  | .set_3_mHL => [0xCB, 0xDE]
  | .set_3_A => [0xCB, 0xDF]
  | .set_4_B => [0xCB, 0xE0]
  | .set_4_C => [0xCB, 0xE1]
  | .set_4_D => [0xCB, 0xE2]
  | .set_4_E => [0xCB, 0xE3]
  | .set_4_H => [0xCB, 0xE4]
  | .set_4_L => [0xCB, 0xE5]
  | .set_4_mHL => [0xCB, 0xE6]
  | .set_4_A => [0xCB, 0xE7]
  | .set_5_B => [0xCB, 0xE8]
  | .set_5_C => [0xCB, 0xE9]
  | .set_5_D => [0xCB, 0xEA]
  | .set_5_E => [0xCB, 0xEB]
  | .set_5_H => [0xCB, 0xEC]
  | .set_5_L => [0xCB, 0xED]
  | .set_5_mHL => [0xCB, 0xEE]
  | .set_5_A => [0xCB, 0xEF]
  | .set_6_B => [0xCB, 0xF0]
  | .set_6_C => [0xCB, 0xF1]
  | .set_6_D => [0xCB, 0xF2]
  | .set_6_E => [0xCB, 0xF3]
  | .set_6_H => [0xCB, 0xF4]
  | .set_6_L => [0xCB, 0xF5]
  | .set_6_mHL => [0xCB, 0xF6]
  | .set_6_A => [0xCB, 0xF7]
  | .set_7_B => [0xCB, 0xF8]
  | .set_7_C => [0xCB, 0xF9]
  | .set_7_D => [0xCB, 0xFA]
  | .set_7_E => [0xCB, 0xFB]
  | .set_7_H => [0xCB, 0xFC]
  | .set_7_L => [0xCB, 0xFD]
  | .set_7_mHL => [0xCB, 0xFE]
  | .set_7_A => [0xCB, 0xFF]

/-! ## The host's numbering of a table row's bits -/

/-- The three bytes at the front of an instruction whose bits are `w`: the first byte is `w[7:0]`, the
second `w[15:8]`, the third `w[23:16]`, and bits above `nbits` are 0. DESIGN CHOICE, safe (log 13): where
`nbits` is 16 and the HIGH byte is `0xCB`, `w` is read as spec/opcode_table.json writes its CB rows, the
prefix byte first (`0xCB30` is `0xCB`, `0x30`). -/
def tableBytes (nbits w : Nat) : Byte × Byte × Byte :=
  let v := w % 2 ^ nbits
  if nbits = 16 ∧ v / 256 = 0xCB then (0xCB, BitVec.ofNat 8 v, 0)
  else (BitVec.ofNat 8 v, BitVec.ofNat 8 (v / 256), BitVec.ofNat 8 (v / 65536))

/-- The instruction the decoder reads from a table row's bits, operand bytes that the row gives no bits
being 0. -/
def decodeTableWord (nbits w : Nat) : Option Instr :=
  match decode [(tableBytes nbits w).1, (tableBytes nbits w).2.1, (tableBytes nbits w).2.2] with
  | .ok (i, _) => some i
  | .error _ => none

end Sys2Proof
end

