-- ==== Sys2Proof/Machine/State.lean ====
section
/-!
DEFINITION. The machine's state (spec/10_state.md), the ways a step can stop, and the state after reset.
-/

namespace Sys2Proof.Machine

/-- The two fatal faults (spec/60_exceptions.md R400). Taking a fault is a NEXT state, because the spec
describes the state it leaves (R403): the reason is kept in `State.fault` and the run state becomes
`faulted`. No step answers `Host.Outcome.fault` (log 5, safe). -/
inductive Fault where
  /-- Raised by the step's guard, never by an instruction, when pc is `0x8000` or above
  (spec/41_step_and_dispatch.md R171). Safe: the fault is the spec's own. -/
  | outOfRangePC
  /-- Raised by a tier X byte, by HALT, STOP, DI, EI and RETI, by the other tier U instructions where
  EXT_LR35902 is false, and by Adc16 and Sbc16 (spec/60_exceptions.md R401). Safe: the spec's own. -/
  | unimplementedOperation
  deriving DecidableEq, Repr

/-- Why there is no step. -/
inductive Refusal where
  /-- Raised by no arm of exec: every instruction has its meaning. -/
  | notModelled (mnemonic : String)
  /-- Raised by the step in run states `unloaded` and `faulted`, where the spec has no transition
  (spec/41_step_and_dispatch.md R182; log 6). Safe. -/
  | notReady
  /-- Raised by the step in step state `dispatching`, which no state between steps is in
  (spec/10_state.md R34; log 7). Safe. -/
  | stepInProgress
  deriving DecidableEq, Repr

/-- The run state (spec/10_state.md R33). -/
inductive RunState where
  | unloaded | ready | faulted
  deriving DecidableEq, Repr

/-- The step state (spec/10_state.md R34). -/
inductive StepState where
  | idle | dispatching
  deriving DecidableEq, Repr

/-- The address space `mem[0x0000..0xFFFF]` (spec/10_state.md R35): the bytes that differ from
`Config.memInit`, by rising address. -/
abbrev Memory := List Host.Cell

/-- The whole state of the machine (spec/10_state.md section 1), and the parameters of its step. -/
structure State where
  /-- A is `af[15:8]`, F is `af[7:0]` (R22, R26). -/
  af : Word
  /-- B is `bc[15:8]`, C is `bc[7:0]`. -/
  bc : Word
  /-- D is `de[15:8]`, E is `de[7:0]`. -/
  de : Word
  /-- H is `hl[15:8]`, L is `hl[7:0]`. -/
  hl : Word
  /-- The stack pointer (R31). -/
  sp : Word
  /-- The program counter (R29). -/
  pc : Word
  /-- CurrentOpcode, the byte last fetched as an opcode (R32). -/
  currentOpcode : Byte
  /-- The run state (R33). -/
  run : RunState
  /-- The fault kind (R33): `none` unless the machine is faulted. -/
  fault : Option Fault
  /-- The step state (R34). -/
  stepState : StepState
  /-- The address space (R35); IE and IF are bytes of it (R36). -/
  mem : Memory
  /-- The parameters of the step, not the spec's state (R39; log 2). -/
  params : Params
  deriving DecidableEq, Repr

/-- The state after reset, the accepted ROM load (spec/10_state.md R38), of an image of no bytes
loaded right after power-on: no byte of memory is listed (log 8, log 14). -/
def State.reset : State where
  af := Config.resetAF
  bc := Config.resetBC
  de := Config.resetDE
  hl := Config.resetHL
  sp := Config.resetSP
  pc := Config.resetPC
  currentOpcode := Config.resetOpcode
  run := .ready
  fault := none
  stepState := .idle
  mem := []
  params := Config.params

/-- What running an instruction answers. -/
abbrev Outcome := Host.Outcome State Fault Refusal

end Sys2Proof.Machine
end

