-- ==== Sys2Proof/Machine/Memory.lean ====
section
/-!
DEFINITION. The Address Space: the memory as data, and every accessor of spec/20_memory.md R63 to R70.

An address is a Word, so it is already reduced modulo 65536 (R61), and no access can fail (R62).
-/

namespace Sys2Proof.Machine

/-! ## The list of written bytes -/

/-- The byte at an address. -/
def Memory.read : Memory → Nat → Byte
  | [], _ => Config.memInit
  | (k, v) :: m, a => if k = a then v else Memory.read m a

/-- The memory without an entry for `a`. -/
def Memory.erase (m : Memory) (a : Nat) : Memory := m.filter fun c => c.1 ≠ a

/-- A new entry at its place by rising address. -/
def Memory.insert : Memory → Nat → Byte → Memory
  | [], a, v => [(a, v)]
  | (k, w) :: m, a, v => if a < k then (a, v) :: (k, w) :: m else (k, w) :: Memory.insert m a v

/-- The memory with `v` at `a`. Writing what an unlisted address reads as leaves no entry. -/
def Memory.write (m : Memory) (a : Nat) (v : Byte) : Memory :=
  if v = Config.memInit then m.erase a else (m.erase a).insert a v

/-- The canonical form: addresses rise strictly and lie in the address space, and no entry is what an
unlisted address reads as. -/
abbrev Memory.wf (m : Memory) : Prop :=
  m.Pairwise (fun c d => c.1 < d.1) ∧ ∀ c ∈ m, c.1 < Config.memSize ∧ c.2 ≠ Config.memInit

/-- The bytes of an image at `base`, `base + 1`, ... (spec/70_reset_and_hazards.md R431). -/
def Memory.load (m : Memory) (base : Nat) : List Byte → Memory
  | [] => m
  | v :: image => (m.write base v).load (base + 1) image

/-! ## The accessors -/

/-- ReadU8 (R63). -/
def State.readU8 (s : State) (a : Word) : Byte := s.mem.read a.toNat

/-- ReadS8 (R64): the byte as a signed number. -/
def State.readS8 (s : State) (a : Word) : Int := (s.readU8 a).toInt

/-- ReadU16 (R65): little-endian, the second address modulo 65536 (log 9). -/
def State.readU16 (s : State) (a : Word) : Word := joinBytes (s.readU8 (a + 1)) (s.readU8 a)

/-- WriteU8 (R66). -/
def State.writeU8 (s : State) (a : Word) (v : Byte) : State :=
  { s with mem := s.mem.write a.toNat v }

/-- WriteU16 with the two bytes given (R68): low byte at `a`, high byte at `a + 1` modulo 65536. -/
def State.writeU16Bytes (s : State) (a : Word) (hi lo : Byte) : State :=
  (s.writeU8 a lo).writeU8 (a + 1) hi

/-- WriteU16 (R67). -/
def State.writeU16 (s : State) (a : Word) (v : Word) : State :=
  s.writeU16Bytes a (hiByte v) (loByte v)

/-- AddU8 (R69): no flag is read or written. -/
def State.addU8 (s : State) (a : Word) (v : Byte) : State := s.writeU8 a (s.readU8 a + v)

/-- SubU8 (R69): no flag is read or written. -/
def State.subU8 (s : State) (a : Word) (v : Byte) : State := s.writeU8 a (s.readU8 a - v)

/-- GetIE, SetIE, GetIF and SetIF (R70). -/
def State.getIE (s : State) : Byte := s.readU8 Config.ieAddr
def State.setIE (s : State) (v : Byte) : State := s.writeU8 Config.ieAddr v
def State.getIF (s : State) : Byte := s.readU8 Config.ifAddr
def State.setIF (s : State) (v : Byte) : State := s.writeU8 Config.ifAddr v

end Sys2Proof.Machine
end

