-- ==== Sys2Proof/Machine/Ops.lean ====
section
/-!
DEFINITION. The Register File's accessors (spec/10_state.md R21 to R29), taking a fault
(spec/60_exceptions.md R403), and the stack operations (spec/42_loads_stores_stack.md R223).
-/

namespace Sys2Proof.Machine

/-! ## Registers -/

/-- The write port of AF keeps bits 3 to 0 at zero (spec/10_state.md R26). -/
def maskAF (w : Word) : Word := w &&& 0xFFF0

/-- `r8[X]` (R21, R22). -/
def State.reg8 (s : State) : Reg8 → Byte
  | .a => hiByte s.af
  | .f => loByte s.af
  | .b => hiByte s.bc
  | .c => loByte s.bc
  | .d => hiByte s.de
  | .e => loByte s.de
  | .h => hiByte s.hl
  | .l => loByte s.hl

/-- `r8[X] <- v` (R21, R22): one half of the pair's cell; a write of F is masked (R26). -/
def State.setReg8 (s : State) (r : Reg8) (v : Byte) : State :=
  match r with
  | .a => { s with af := joinBytes v (loByte s.af) }
  | .f => { s with af := joinBytes (hiByte s.af) (v &&& 0xF0) }
  | .b => { s with bc := joinBytes v (loByte s.bc) }
  | .c => { s with bc := joinBytes (hiByte s.bc) v }
  | .d => { s with de := joinBytes v (loByte s.de) }
  | .e => { s with de := joinBytes (hiByte s.de) v }
  | .h => { s with hl := joinBytes v (loByte s.hl) }
  | .l => { s with hl := joinBytes (hiByte s.hl) v }

/-- `r16[P]` (R23). -/
def State.reg16 (s : State) : Reg16 → Word
  | .af => s.af
  | .bc => s.bc
  | .de => s.de
  | .hl => s.hl
  | .sp => s.sp
  | .pc => s.pc

/-- `r16[P] <- w` (R23): both halves at once; a write of AF is masked (R26). -/
def State.setReg16 (s : State) (p : Reg16) (w : Word) : State :=
  match p with
  | .af => { s with af := maskAF w }
  | .bc => { s with bc := w }
  | .de => { s with de := w }
  | .hl => { s with hl := w }
  | .sp => { s with sp := w }
  | .pc => { s with pc := w }

/-- AdvancePC (R29): a displacement, with 16-bit wraparound. -/
def State.advancePC (s : State) (delta : Word) : State := { s with pc := s.pc + delta }

/-! ## Flags as bits of F (R26; spec/00_scope.md R13) -/

/-- The Zero flag of an F value. -/
def flagZ (f : Byte) : Bool := f.getLsbD 7
/-- The Negative flag of an F value. -/
def flagN (f : Byte) : Bool := f.getLsbD 6
/-- The Half-carry flag of an F value. -/
def flagH (f : Byte) : Bool := f.getLsbD 5
/-- The Carry flag of an F value. -/
def flagC (f : Byte) : Bool := f.getLsbD 4

/-- `{z, n, h, c}` as an F value. -/
def flagByte (z n h c : Bool) : Byte :=
  BitVec.ofBool z ++ BitVec.ofBool n ++ BitVec.ofBool h ++ BitVec.ofBool c ++ (0#4)

/-! ## Faults -/

/-- Taking a fault (spec/60_exceptions.md R403, R412): the run state and the fault kind change and
nothing else does. No pc or status is saved and control goes nowhere. There is no return beside it
(R413): the only way out of `faulted` is an accepted ROM load (R404). -/
def State.takeFault (s : State) (k : Fault) : State := { s with run := .faulted, fault := some k }

/-- `raise UnimplementedOperation(op)` (spec/00_scope.md R13; spec/47_unimplemented_and_ext.md R350). -/
def raiseUnimplemented (s : State) : Outcome := .next (s.takeFault .unimplementedOperation)

/-- FAULT_CODE (spec/60_exceptions.md R401). -/
def faultCode : Option Fault → Nat
  | none => 0
  | some .outOfRangePC => 1
  | some .unimplementedOperation => 2

/-- The behaviour of a tier U row that has an extension meaning: that meaning with EXT_LR35902, else
the fault (spec/47_unimplemented_and_ext.md R350). -/
def withExt (s : State) (meaning : State → Outcome) : Outcome :=
  if s.params.ext then meaning s else raiseUnimplemented s

/-! ## The stack (spec/42_loads_stores_stack.md R223) -/

/-- `push16(v)`: SP goes down by 2, then `v` is written at SP. -/
def State.push16 (s : State) (v : Word) : State :=
  (s.setReg16 .sp (s.sp - 2)).writeU16 (s.sp - 2) v

/-- `pop16()`: the value at SP; SP goes up by 2. -/
def State.pop16 (s : State) : Word × State := (s.readU16 s.sp, s.setReg16 .sp (s.sp + 2))

end Sys2Proof.Machine
end

