-- ==== Sys2Proof/Machine/Flags.lean ====
section
/-!
DEFINITION. The Flag Engine: the predicates of spec/40_flag_engine_alu.md R131 to R137 and the composite
operations of R139 to R150, and the operations of spec/47_unimplemented_and_ext.md that need
EXT_LR35902.

An operation is a function of its operands (and of the old F where its rule reads a flag) to the
result and the new F; the instruction writes both.
-/

namespace Sys2Proof.Machine

/-! ## Predicates -/

/-- `Zero(result)` (R131). -/
def zeroFlag (result : Byte) : Bool := result == 0

/-- `HalfCarryAdd8(a, b)` (R132). -/
def halfCarryAdd8 (a b : Byte) : Bool :=
  ((a.toNat &&& 0xF) + (b.toNat &&& 0xF)) &&& 0x10 != 0

/-- `HalfCarryAdd16(a, b)` (R133): bits 7 to 0 take no part. -/
def halfCarryAdd16 (a b : Word) : Bool :=
  ((a.toNat &&& 0xF00) + (b.toNat &&& 0xF00)) &&& 0x1000 != 0

/-- `CarryAdd8(result16)` of the unreduced sum (R134). -/
def carryAdd8 (sum : Nat) : Bool := sum &&& 0xFF00 != 0

/-- `CarryAdd16(result32)` of the unreduced sum (R135). -/
def carryAdd16 (sum : Nat) : Bool := sum &&& 0xFFFF0000 != 0

/-- `BorrowCarry(a, b)` (R136). -/
def borrowCarry (a b : Byte) : Bool := decide (a.toNat < b.toNat)

/-- `BorrowHalfCarry(a, b)` (R137), the difference taken wider than 5 bits. -/
def borrowHalfCarry (a b : Byte) : Bool :=
  ((a.setWidth 16 &&& 0xF) - (b.setWidth 16 &&& 0xF)) &&& 0x10 != 0

/-! ## Composite operations -/

/-- The result of a composite operation and the new F (R138). -/
structure AluResult where
  result : Byte
  flags : Byte
  deriving DecidableEq, Repr

/-- `Add8(x, y)` (R139). -/
def add8 (x y : Byte) : AluResult :=
  let sum := x.toNat + y.toNat
  let result := BitVec.ofNat 8 sum
  ⟨result, flagByte (zeroFlag result) false (halfCarryAdd8 x y) (carryAdd8 sum)⟩

/-- `Sub8(x, y)` (R140). -/
def sub8 (x y : Byte) : AluResult :=
  let result := x - y
  ⟨result, flagByte (zeroFlag result) true (borrowHalfCarry x y) (borrowCarry x y)⟩

/-- The Carry flag as a number to add (R141). -/
def carryIn (f : Byte) : Byte := if flagC f then 1 else 0

/-- `Adc8(x, y)` (R141): the adjusted operand is reduced to 8 bits (log 11). -/
def adc8 (f x y : Byte) : AluResult := add8 x (y + carryIn f)

/-- The adjusted operand of `Sbc8` (R142), by SBC_ADJUST. -/
def sbcOperand (adjust : SbcAdjust) (f y : Byte) : Byte :=
  match adjust with
  | .dec => y - carryIn f
  | .inc => y + carryIn f

/-- `Sbc8(x, y)` (R142). -/
def sbc8 (adjust : SbcAdjust) (f x y : Byte) : AluResult := sub8 x (sbcOperand adjust f y)

/-- `Inc8(x)` (R143): Carry is kept. -/
def inc8 (f x : Byte) : AluResult :=
  let result := x + 1
  ⟨result, flagByte (zeroFlag result) false (halfCarryAdd8 x 1) (flagC f)⟩

/-- `Dec8(x)` (R144): Carry is kept. -/
def dec8 (f x : Byte) : AluResult :=
  let result := x - 1
  ⟨result, flagByte (zeroFlag result) true (borrowHalfCarry x 1) (flagC f)⟩

/-- `And8(x, y)` (R145). -/
def and8 (x y : Byte) : AluResult := ⟨x &&& y, flagByte (zeroFlag (x &&& y)) false true false⟩

/-- `Or8(x, y)` (R146). -/
def or8 (x y : Byte) : AluResult := ⟨x ||| y, flagByte (zeroFlag (x ||| y)) false false false⟩

/-- `Xor8(x, y)` (R147). -/
def xor8 (x y : Byte) : AluResult := ⟨x ^^^ y, flagByte (zeroFlag (x ^^^ y)) false false false⟩

/-- `Swap8(x)` (R148). -/
def swap8 (x : Byte) : AluResult :=
  let result := (x <<< 4) ||| (x >>> 4)
  ⟨result, flagByte (zeroFlag result) false false false⟩

/-- The new HL of `AddHL16(v)` (R149). -/
def addHL16Result (hl v : Word) : Word := BitVec.ofNat 16 (hl.toNat + v.toNat)

/-- The new F of `AddHL16(v)` (R149): Zero is kept. -/
def addHL16Flags (f : Byte) (hl v : Word) : Byte :=
  flagByte (flagZ f) false (halfCarryAdd16 hl v) (carryAdd16 (hl.toNat + v.toNat))

/-- `Adc16` (R150): not implemented, it raises. No row of DT_REF calls it. -/
def adc16 (_x _y : Word) (s : State) : Outcome := raiseUnimplemented s

/-- `Sbc16` (R150): not implemented, it raises. No row of DT_REF calls it. -/
def sbc16 (_x _y : Word) (s : State) : Outcome := raiseUnimplemented s

/-- The Flag Engine operation of an ALU operation field (spec/30_encoding.md R110;
spec/43_arith8.md R261 to R284). -/
def aluResult (op : AluOp) (adjust : SbcAdjust) (f x y : Byte) : AluResult :=
  match op with
  | .add => add8 x y
  | .adc => adc8 f x y
  | .sub => sub8 x y
  | .sbc => sbc8 adjust f x y
  | .and => and8 x y
  | .xor => xor8 x y
  | .or => or8 x y
  | .cp => sub8 x y

/-! ## Operations that need EXT_LR35902 -/

/-- The flags of the CB rotates and shifts (spec/47_unimplemented_and_ext.md section 6). -/
def shiftFlags (r : Byte) (out : Bool) : Byte := flagByte (zeroFlag r) false false out

/-- A rotate, a shift or `SWAP` of a value `v`, old flags `f` (spec/47_unimplemented_and_ext.md R367 to
R373; spec/40_flag_engine_alu.md R148). -/
def shiftResult (op : ShiftOp) (f v : Byte) : AluResult :=
  match op with
  | .rlc => let r := (v <<< 1) ||| (v >>> 7); ⟨r, shiftFlags r (v.getLsbD 7)⟩
  | .rrc => let r := (v >>> 1) ||| (v <<< 7); ⟨r, shiftFlags r (v.getLsbD 0)⟩
  | .rl => let r := (v <<< 1) ||| carryIn f; ⟨r, shiftFlags r (v.getLsbD 7)⟩
  | .rr => let r := (v >>> 1) ||| (carryIn f <<< 7); ⟨r, shiftFlags r (v.getLsbD 0)⟩
  | .sla => let r := v <<< 1; ⟨r, shiftFlags r (v.getLsbD 7)⟩
  | .sra => let r := (v >>> 1) ||| (v &&& 0x80); ⟨r, shiftFlags r (v.getLsbD 0)⟩
  | .swap => swap8 v
  | .srl => let r := v >>> 1; ⟨r, shiftFlags r (v.getLsbD 0)⟩

/-- A rotate of A (R352 to R355): as the CB form, with Zero cleared. -/
def accRotate (op : ShiftOp) (f a : Byte) : AluResult :=
  let r := shiftResult op f a
  ⟨r.result, flagByte false false false (flagC r.flags)⟩

/-- `DAA` (R356): A and F from the old A and F. -/
def daa8 (f a : Byte) : AluResult :=
  if flagN f then
    let r := a - (if flagC f then 0x60 else 0) - (if flagH f then 0x06 else 0)
    ⟨r, flagByte (zeroFlag r) true false (flagC f)⟩
  else
    let high := flagC f || decide (0x99 < a.toNat)
    let low := flagH f || decide (9 < (a &&& 0xF).toNat)
    let r := a + (if high then 0x60 else 0) + (if low then 0x06 else 0)
    ⟨r, flagByte (zeroFlag r) false false high⟩

/-- The flags of `ADD SP,e` and `LD HL,SP+e` (R360, R361), from the operand byte as unsigned. -/
def spDisplacementFlags (sp : Word) (n : Byte) : Byte :=
  flagByte false false (decide (0xF < (sp &&& 0xF).toNat + (n &&& 0xF).toNat))
    (decide (0xFF < (sp &&& 0xFF).toNat + n.toNat))

/-- The flags of `BIT b,t` (R374): Carry is kept. -/
def bitFlags (f v : Byte) (b : Fin 8) : Byte := flagByte (!v.getLsbD b.val) false true (flagC f)

end Sys2Proof.Machine
end

