-- ==== Sys2Proof/Machine/Operands.lean ====
section
/-!
DEFINITION. Operand forms and the shapes of instruction that the meanings share.

A meaning reads its sources in the state at the start of the step, computes, writes the destination and
writes pc last (spec/41_step_and_dispatch.md R185). Its immediate operands are arguments, read by the step
from the bytes after the opcode byte (R177; Fetch.lean).
-/

namespace Sys2Proof.Machine

/-! ## Operands -/

/-- The address in the high page (spec/42_loads_stores_stack.md R212 to R215). -/
def highPage (n : Byte) : Word := 0xFF00 + n.setWidth 16

/-- `cond(cc)` (spec/45_control.md R311). -/
def State.cond (s : State) : Cond → Bool
  | .nz => !flagZ (s.reg8 .f)
  | .z => flagZ (s.reg8 .f)
  | .nc => !flagC (s.reg8 .f)
  | .c => flagC (s.reg8 .f)

/-- The operand of a CB-prefixed instruction (spec/47_unimplemented_and_ext.md R377). -/
def State.target (s : State) : Target → Byte
  | .reg r => s.reg8 r.reg
  | .mHL => s.readU8 s.hl

/-- Writing a result back to the operand (R377). -/
def State.setTarget (s : State) (t : Target) (v : Byte) : State :=
  match t with
  | .reg r => s.setReg8 r.reg v
  | .mHL => s.writeU8 s.hl v

/-- The target of a relative jump (spec/45_control.md R316): from the next instruction. -/
def relativeTarget (pc : Word) (e : Byte) : Word := pc + 2 + sext16 e

/-- The address of a restart (spec/30_encoding.md R111). -/
def restartAddress (y : Fin 8) : Word := BitVec.ofNat 16 (8 * y.val)

/-! ## Shapes of instruction -/

/-- The instruction ends and pc goes past its `len` bytes (spec/41_step_and_dispatch.md R183). -/
def State.done (s : State) (len : Word) : Outcome := .next (s.advancePC len)

/-- A byte into a register. -/
def loadReg8 (dst : Reg8) (v : Byte) (len : Word) (s : State) : Outcome :=
  (s.setReg8 dst v).done len

/-- A byte of memory into a register. -/
def loadMem8 (dst : Reg8) (a : Word) (len : Word) (s : State) : Outcome :=
  loadReg8 dst (s.readU8 a) len s

/-- A byte into memory. -/
def storeMem8 (a : Word) (v : Byte) (len : Word) (s : State) : Outcome := (s.writeU8 a v).done len

/-- `LD A,(HL+)` and `LD A,(HL-)`: then HL changes by `delta`
(spec/42_loads_stores_stack.md R217, R219). -/
def loadAStepHL (delta : Word) (s : State) : Outcome :=
  ((s.setReg8 .a (s.readU8 s.hl)).setReg16 .hl (s.hl + delta)).done 1

/-- `LD (HL+),A` and `LD (HL-),A` (R216, R218). -/
def storeAStepHL (delta : Word) (s : State) : Outcome :=
  ((s.writeU8 s.hl (s.reg8 .a)).setReg16 .hl (s.hl + delta)).done 1

/-- A word into a 16-bit register. -/
def loadReg16 (dst : Reg16) (v : Word) (len : Word) (s : State) : Outcome :=
  (s.setReg16 dst v).done len

/-- `PUSH qq` (R224). -/
def pushPair (p : Reg16) (s : State) : Outcome := (s.push16 (s.reg16 p)).done 1

/-- `POP qq` and `POP AF` (R225, R226). -/
def popPair (p : Reg16) (s : State) : Outcome := (s.pop16.2.setReg16 p s.pop16.1).done 1

/-- `ALU A,y` (spec/43_arith8.md R260): F from the operation, and the result to A but for `CP`. -/
def aluA (op : AluOp) (y : Byte) (len : Word) (s : State) : Outcome :=
  let r := aluResult op s.params.sbcAdjust (s.reg8 .f) (s.reg8 .a) y
  match op with
  | .cp => (s.setReg8 .f r.flags).done len
  | _ => ((s.setReg8 .a r.result).setReg8 .f r.flags).done len

/-- `ALU A,r`. -/
def aluReg (op : AluOp) (r : Reg8) (s : State) : Outcome := aluA op (s.reg8 r) 1 s

/-- `ALU A,(HL)`. -/
def aluMem (op : AluOp) (s : State) : Outcome := aluA op (s.readU8 s.hl) 1 s

/-- `INC r` (R285). -/
def incReg8 (r : Reg8) (s : State) : Outcome :=
  let x := inc8 (s.reg8 .f) (s.reg8 r)
  ((s.setReg8 r x.result).setReg8 .f x.flags).done 1

/-- `DEC r` (R286). -/
def decReg8 (r : Reg8) (s : State) : Outcome :=
  let x := dec8 (s.reg8 .f) (s.reg8 r)
  ((s.setReg8 r x.result).setReg8 .f x.flags).done 1

/-- `ADD HL,rr` (spec/44_arith16.md R301). -/
def addHL (v : Word) (s : State) : Outcome :=
  ((s.setReg16 .hl (addHL16Result s.hl v)).setReg8 .f (addHL16Flags (s.reg8 .f) s.hl v)).done 1

/-- `INC rr` and `DEC rr` (R302, R303): the pair changes by `delta`, F does not change. -/
def stepPair (p : Reg16) (delta : Word) (s : State) : Outcome :=
  (s.setReg16 p (s.reg16 p + delta)).done 1

/-- A control transfer (spec/45_control.md R310): any target, unchecked. -/
def jumpTo (target : Word) (s : State) : Outcome := .next (s.setReg16 .pc target)

/-- A transfer taken where the condition holds; else the next instruction, `len` bytes on. -/
def jumpIf (cc : Cond) (target : Word) (len : Word) (s : State) : Outcome :=
  if s.cond cc then jumpTo target s else s.done len

/-- `CALL` and `RST` (R318, R323): the address after the instruction's `len` bytes is pushed. -/
def callTo (target : Word) (len : Word) (s : State) : Outcome := jumpTo target (s.push16 (s.pc + len))

/-- `CALL cc,nn` (R319). -/
def callIf (cc : Cond) (target : Word) (s : State) : Outcome :=
  if s.cond cc then callTo target 3 s else s.done 3

/-- `RET` (R320). -/
def returnTo (s : State) : Outcome := jumpTo s.pop16.1 s.pop16.2

/-- `RET cc` (R321). -/
def returnIf (cc : Cond) (s : State) : Outcome := if s.cond cc then returnTo s else s.done 1

/-- A rotate, a shift or `SWAP` of a CB operand, F from the operation
(spec/47_unimplemented_and_ext.md section 6; spec/46_cb_prefix_swap.md R341, R342). -/
def shiftTarget (op : ShiftOp) (t : Target) (s : State) : Outcome :=
  let x := shiftResult op (s.reg8 .f) (s.target t)
  ((s.setTarget t x.result).setReg8 .f x.flags).done 2

/-- `RLCA`, `RRCA`, `RLA`, `RRA` (spec/47_unimplemented_and_ext.md R352 to R355). -/
def rotateA (op : ShiftOp) (s : State) : Outcome :=
  let x := accRotate op (s.reg8 .f) (s.reg8 .a)
  ((s.setReg8 .a x.result).setReg8 .f x.flags).done 1

/-- `BIT b,t` (R374): the operand is not written. -/
def testBit (b : Fin 8) (t : Target) (s : State) : Outcome :=
  (s.setReg8 .f (bitFlags (s.reg8 .f) (s.target t) b)).done 2

/-- `RES b,t` (R375): no flag. -/
def resetBit (b : Fin 8) (t : Target) (s : State) : Outcome :=
  (s.setTarget t (s.target t &&& ~~~(1#8 <<< b.val))).done 2

/-- `SET b,t` (R376): no flag. -/
def setBit (b : Fin 8) (t : Target) (s : State) : Outcome :=
  (s.setTarget t (s.target t ||| (1#8 <<< b.val))).done 2

/-- `ADD SP,e` and `LD HL,SP+e` (R360, R361): SP plus the displacement into `dst`. -/
def addSPTo (dst : Reg16) (e : Byte) (s : State) : Outcome :=
  ((s.setReg16 dst (s.sp + sext16 e)).setReg8 .f (spDisplacementFlags s.sp e)).done 2

end Sys2Proof.Machine
end

