-- ==== Sys2Proof/Machine/Arith16.lean ====
section
/-!
DEFINITION. 16-bit arithmetic (spec/44_arith16.md R300 to R303).
-/

namespace Sys2Proof.Machine

/-- `INC BC`, `03` (R302). -/
abbrev exec_inc_BC (s : State) : Outcome := stepPair .bc 1 s
/-- `ADD HL,BC`, `09` (R301). -/
abbrev exec_add_HL_BC (s : State) : Outcome := addHL (s.reg16 .bc) s
/-- `DEC BC`, `0B` (R303). -/
abbrev exec_dec_BC (s : State) : Outcome := stepPair .bc (-1) s
/-- `INC DE`, `13` (R302). -/
abbrev exec_inc_DE (s : State) : Outcome := stepPair .de 1 s
/-- `ADD HL,DE`, `19` (R301). -/
abbrev exec_add_HL_DE (s : State) : Outcome := addHL (s.reg16 .de) s
/-- `DEC DE`, `1B` (R303). -/
abbrev exec_dec_DE (s : State) : Outcome := stepPair .de (-1) s
/-- `INC HL`, `23` (R302). -/
abbrev exec_inc_HL (s : State) : Outcome := stepPair .hl 1 s
/-- `ADD HL,HL`, `29` (R301). -/
abbrev exec_add_HL_HL (s : State) : Outcome := addHL (s.reg16 .hl) s
/-- `DEC HL`, `2B` (R303). -/
abbrev exec_dec_HL (s : State) : Outcome := stepPair .hl (-1) s
/-- `INC SP`, `33` (R302). -/
abbrev exec_inc_SP (s : State) : Outcome := stepPair .sp 1 s
/-- `ADD HL,SP`, `39` (R301). -/
abbrev exec_add_HL_SP (s : State) : Outcome := addHL (s.reg16 .sp) s
/-- `DEC SP`, `3B` (R303). -/
abbrev exec_dec_SP (s : State) : Outcome := stepPair .sp (-1) s

end Sys2Proof.Machine
end

