-- ==== Sys2Proof/Machine/Arith8.lean ====
section
/-!
DEFINITION. 8-bit arithmetic and logic (spec/43_arith8.md R260 to R288).

`INC (HL)` and `DEC (HL)` go through AddU8 and SubU8 and write no flag (R287, R288).
-/

namespace Sys2Proof.Machine

/-- `INC B`, `04` (R285). -/
abbrev exec_inc_B (s : State) : Outcome := incReg8 .b s
/-- `DEC B`, `05` (R286). -/
abbrev exec_dec_B (s : State) : Outcome := decReg8 .b s
/-- `INC C`, `0C` (R285). -/
abbrev exec_inc_C (s : State) : Outcome := incReg8 .c s
/-- `DEC C`, `0D` (R286). -/
abbrev exec_dec_C (s : State) : Outcome := decReg8 .c s
/-- `INC D`, `14` (R285). -/
abbrev exec_inc_D (s : State) : Outcome := incReg8 .d s
/-- `DEC D`, `15` (R286). -/
abbrev exec_dec_D (s : State) : Outcome := decReg8 .d s
/-- `INC E`, `1C` (R285). -/
abbrev exec_inc_E (s : State) : Outcome := incReg8 .e s
/-- `DEC E`, `1D` (R286). -/
abbrev exec_dec_E (s : State) : Outcome := decReg8 .e s
/-- `INC H`, `24` (R285). -/
abbrev exec_inc_H (s : State) : Outcome := incReg8 .h s
/-- `DEC H`, `25` (R286). -/
abbrev exec_dec_H (s : State) : Outcome := decReg8 .h s
/-- `INC L`, `2C` (R285). -/
abbrev exec_inc_L (s : State) : Outcome := incReg8 .l s
/-- `DEC L`, `2D` (R286). -/
abbrev exec_dec_L (s : State) : Outcome := decReg8 .l s
/-- `INC (HL)`, `34` (R287). -/
abbrev exec_inc_mHL (s : State) : Outcome := (s.addU8 s.hl 1).done 1
/-- `DEC (HL)`, `35` (R288). -/
abbrev exec_dec_mHL (s : State) : Outcome := (s.subU8 s.hl 1).done 1
/-- `INC A`, `3C` (R285). -/
abbrev exec_inc_A (s : State) : Outcome := incReg8 .a s
/-- `DEC A`, `3D` (R286). -/
abbrev exec_dec_A (s : State) : Outcome := decReg8 .a s
/-- `ADD A,B`, `80` (R261). -/
abbrev exec_add_A_B (s : State) : Outcome := aluReg .add .b s
/-- `ADD A,C`, `81` (R261). -/
abbrev exec_add_A_C (s : State) : Outcome := aluReg .add .c s
/-- `ADD A,D`, `82` (R261). -/
abbrev exec_add_A_D (s : State) : Outcome := aluReg .add .d s
/-- `ADD A,E`, `83` (R261). -/
abbrev exec_add_A_E (s : State) : Outcome := aluReg .add .e s
/-- `ADD A,H`, `84` (R261). -/
abbrev exec_add_A_H (s : State) : Outcome := aluReg .add .h s
/-- `ADD A,L`, `85` (R261). -/
abbrev exec_add_A_L (s : State) : Outcome := aluReg .add .l s
/-- `ADD A,(HL)`, `86` (R262). -/
abbrev exec_add_A_mHL (s : State) : Outcome := aluMem .add s
/-- `ADD A,A`, `87` (R261). -/
abbrev exec_add_A_A (s : State) : Outcome := aluReg .add .a s
/-- `ADC A,B`, `88` (R264). -/
abbrev exec_adc_A_B (s : State) : Outcome := aluReg .adc .b s
/-- `ADC A,C`, `89` (R264). -/
abbrev exec_adc_A_C (s : State) : Outcome := aluReg .adc .c s
/-- `ADC A,D`, `8A` (R264). -/
abbrev exec_adc_A_D (s : State) : Outcome := aluReg .adc .d s
/-- `ADC A,E`, `8B` (R264). -/
abbrev exec_adc_A_E (s : State) : Outcome := aluReg .adc .e s
/-- `ADC A,H`, `8C` (R264). -/
abbrev exec_adc_A_H (s : State) : Outcome := aluReg .adc .h s
/-- `ADC A,L`, `8D` (R264). -/
abbrev exec_adc_A_L (s : State) : Outcome := aluReg .adc .l s
/-- `ADC A,(HL)`, `8E` (R265). -/
abbrev exec_adc_A_mHL (s : State) : Outcome := aluMem .adc s
/-- `ADC A,A`, `8F` (R264). -/
abbrev exec_adc_A_A (s : State) : Outcome := aluReg .adc .a s
/-- `SUB B`, `90` (R267). -/
abbrev exec_sub_B (s : State) : Outcome := aluReg .sub .b s
/-- `SUB C`, `91` (R267). -/
abbrev exec_sub_C (s : State) : Outcome := aluReg .sub .c s
/-- `SUB D`, `92` (R267). -/
abbrev exec_sub_D (s : State) : Outcome := aluReg .sub .d s
/-- `SUB E`, `93` (R267). -/
abbrev exec_sub_E (s : State) : Outcome := aluReg .sub .e s
/-- `SUB H`, `94` (R267). -/
abbrev exec_sub_H (s : State) : Outcome := aluReg .sub .h s
/-- `SUB L`, `95` (R267). -/
abbrev exec_sub_L (s : State) : Outcome := aluReg .sub .l s
/-- `SUB (HL)`, `96` (R268). -/
abbrev exec_sub_mHL (s : State) : Outcome := aluMem .sub s
/-- `SUB A`, `97` (R267). -/
abbrev exec_sub_A (s : State) : Outcome := aluReg .sub .a s
/-- `SBC A,B`, `98` (R270). -/
abbrev exec_sbc_A_B (s : State) : Outcome := aluReg .sbc .b s
/-- `SBC A,C`, `99` (R270). -/
abbrev exec_sbc_A_C (s : State) : Outcome := aluReg .sbc .c s
/-- `SBC A,D`, `9A` (R270). -/
abbrev exec_sbc_A_D (s : State) : Outcome := aluReg .sbc .d s
/-- `SBC A,E`, `9B` (R270). -/
abbrev exec_sbc_A_E (s : State) : Outcome := aluReg .sbc .e s
/-- `SBC A,H`, `9C` (R270). -/
abbrev exec_sbc_A_H (s : State) : Outcome := aluReg .sbc .h s
/-- `SBC A,L`, `9D` (R270). -/
abbrev exec_sbc_A_L (s : State) : Outcome := aluReg .sbc .l s
/-- `SBC A,(HL)`, `9E` (R271). -/
abbrev exec_sbc_A_mHL (s : State) : Outcome := aluMem .sbc s
/-- `SBC A,A`, `9F` (R270). -/
abbrev exec_sbc_A_A (s : State) : Outcome := aluReg .sbc .a s
/-- `AND B`, `A0` (R273). -/
abbrev exec_and_B (s : State) : Outcome := aluReg .and .b s
/-- `AND C`, `A1` (R273). -/
abbrev exec_and_C (s : State) : Outcome := aluReg .and .c s
/-- `AND D`, `A2` (R273). -/
abbrev exec_and_D (s : State) : Outcome := aluReg .and .d s
/-- `AND E`, `A3` (R273). -/
abbrev exec_and_E (s : State) : Outcome := aluReg .and .e s
/-- `AND H`, `A4` (R273). -/
abbrev exec_and_H (s : State) : Outcome := aluReg .and .h s
/-- `AND L`, `A5` (R273). -/
abbrev exec_and_L (s : State) : Outcome := aluReg .and .l s
/-- `AND (HL)`, `A6` (R274). -/
abbrev exec_and_mHL (s : State) : Outcome := aluMem .and s
/-- `AND A`, `A7` (R273). -/
abbrev exec_and_A (s : State) : Outcome := aluReg .and .a s
/-- `XOR B`, `A8` (R276). -/
abbrev exec_xor_B (s : State) : Outcome := aluReg .xor .b s
/-- `XOR C`, `A9` (R276). -/
abbrev exec_xor_C (s : State) : Outcome := aluReg .xor .c s
/-- `XOR D`, `AA` (R276). -/
abbrev exec_xor_D (s : State) : Outcome := aluReg .xor .d s
/-- `XOR E`, `AB` (R276). -/
abbrev exec_xor_E (s : State) : Outcome := aluReg .xor .e s
/-- `XOR H`, `AC` (R276). -/
abbrev exec_xor_H (s : State) : Outcome := aluReg .xor .h s
/-- `XOR L`, `AD` (R276). -/
abbrev exec_xor_L (s : State) : Outcome := aluReg .xor .l s
/-- `XOR (HL)`, `AE` (R277). -/
abbrev exec_xor_mHL (s : State) : Outcome := aluMem .xor s
/-- `XOR A`, `AF` (R276). -/
abbrev exec_xor_A (s : State) : Outcome := aluReg .xor .a s
/-- `OR B`, `B0` (R279). -/
abbrev exec_or_B (s : State) : Outcome := aluReg .or .b s
/-- `OR C`, `B1` (R279). -/
abbrev exec_or_C (s : State) : Outcome := aluReg .or .c s
/-- `OR D`, `B2` (R279). -/
abbrev exec_or_D (s : State) : Outcome := aluReg .or .d s
/-- `OR E`, `B3` (R279). -/
abbrev exec_or_E (s : State) : Outcome := aluReg .or .e s
/-- `OR H`, `B4` (R279). -/
abbrev exec_or_H (s : State) : Outcome := aluReg .or .h s
/-- `OR L`, `B5` (R279). -/
abbrev exec_or_L (s : State) : Outcome := aluReg .or .l s
/-- `OR (HL)`, `B6` (R280). -/
abbrev exec_or_mHL (s : State) : Outcome := aluMem .or s
/-- `OR A`, `B7` (R279). -/
abbrev exec_or_A (s : State) : Outcome := aluReg .or .a s
/-- `CP B`, `B8` (R282). -/
abbrev exec_cp_B (s : State) : Outcome := aluReg .cp .b s
/-- `CP C`, `B9` (R282). -/
abbrev exec_cp_C (s : State) : Outcome := aluReg .cp .c s
/-- `CP D`, `BA` (R282). -/
abbrev exec_cp_D (s : State) : Outcome := aluReg .cp .d s
/-- `CP E`, `BB` (R282). -/
abbrev exec_cp_E (s : State) : Outcome := aluReg .cp .e s
/-- `CP H`, `BC` (R282). -/
abbrev exec_cp_H (s : State) : Outcome := aluReg .cp .h s
/-- `CP L`, `BD` (R282). -/
abbrev exec_cp_L (s : State) : Outcome := aluReg .cp .l s
/-- `CP (HL)`, `BE` (R283). -/
abbrev exec_cp_mHL (s : State) : Outcome := aluMem .cp s
/-- `CP A`, `BF` (R282). -/
abbrev exec_cp_A (s : State) : Outcome := aluReg .cp .a s
/-- `ADD A,n`, `C6` (R263). -/
abbrev exec_add_A_n (n : Byte) (s : State) : Outcome := aluA .add n 2 s
/-- `ADC A,n`, `CE` (R266). -/
abbrev exec_adc_A_n (n : Byte) (s : State) : Outcome := aluA .adc n 2 s
/-- `SUB n`, `D6` (R269). -/
abbrev exec_sub_n (n : Byte) (s : State) : Outcome := aluA .sub n 2 s
/-- `SBC A,n`, `DE` (R272). -/
abbrev exec_sbc_A_n (n : Byte) (s : State) : Outcome := aluA .sbc n 2 s
/-- `AND n`, `E6` (R275). -/
abbrev exec_and_n (n : Byte) (s : State) : Outcome := aluA .and n 2 s
/-- `XOR n`, `EE` (R278). -/
abbrev exec_xor_n (n : Byte) (s : State) : Outcome := aluA .xor n 2 s
/-- `OR n`, `F6` (R281). -/
abbrev exec_or_n (n : Byte) (s : State) : Outcome := aluA .or n 2 s
/-- `CP n`, `FE` (R284). -/
abbrev exec_cp_n (n : Byte) (s : State) : Outcome := aluA .cp n 2 s

end Sys2Proof.Machine
end

