-- ==== Sys2Proof/Machine/CbBits.lean ====
section
/-!
DEFINITION. CB-prefixed bit operations (spec/47_unimplemented_and_ext.md R374 to R377), with EXT_LR35902 only.
-/

namespace Sys2Proof.Machine

/-- `BIT 0,B`, `CB 40` (R374). -/
abbrev exec_bit_0_B (s : State) : Outcome := withExt s (testBit 0 (.reg .b))
/-- `BIT 0,C`, `CB 41` (R374). -/
abbrev exec_bit_0_C (s : State) : Outcome := withExt s (testBit 0 (.reg .c))
/-- `BIT 0,D`, `CB 42` (R374). -/
abbrev exec_bit_0_D (s : State) : Outcome := withExt s (testBit 0 (.reg .d))
/-- `BIT 0,E`, `CB 43` (R374). -/
abbrev exec_bit_0_E (s : State) : Outcome := withExt s (testBit 0 (.reg .e))
/-- `BIT 0,H`, `CB 44` (R374). -/
abbrev exec_bit_0_H (s : State) : Outcome := withExt s (testBit 0 (.reg .h))
/-- `BIT 0,L`, `CB 45` (R374). -/
abbrev exec_bit_0_L (s : State) : Outcome := withExt s (testBit 0 (.reg .l))
/-- `BIT 0,(HL)`, `CB 46` (R374). -/
abbrev exec_bit_0_mHL (s : State) : Outcome := withExt s (testBit 0 .mHL)
/-- `BIT 0,A`, `CB 47` (R374). -/
abbrev exec_bit_0_A (s : State) : Outcome := withExt s (testBit 0 (.reg .a))
/-- `BIT 1,B`, `CB 48` (R374). -/
abbrev exec_bit_1_B (s : State) : Outcome := withExt s (testBit 1 (.reg .b))
/-- `BIT 1,C`, `CB 49` (R374). -/
abbrev exec_bit_1_C (s : State) : Outcome := withExt s (testBit 1 (.reg .c))
/-- `BIT 1,D`, `CB 4A` (R374). -/
abbrev exec_bit_1_D (s : State) : Outcome := withExt s (testBit 1 (.reg .d))
/-- `BIT 1,E`, `CB 4B` (R374). -/
abbrev exec_bit_1_E (s : State) : Outcome := withExt s (testBit 1 (.reg .e))
/-- `BIT 1,H`, `CB 4C` (R374). -/
abbrev exec_bit_1_H (s : State) : Outcome := withExt s (testBit 1 (.reg .h))
/-- `BIT 1,L`, `CB 4D` (R374). -/
abbrev exec_bit_1_L (s : State) : Outcome := withExt s (testBit 1 (.reg .l))
/-- `BIT 1,(HL)`, `CB 4E` (R374). -/
abbrev exec_bit_1_mHL (s : State) : Outcome := withExt s (testBit 1 .mHL)
/-- `BIT 1,A`, `CB 4F` (R374). -/
abbrev exec_bit_1_A (s : State) : Outcome := withExt s (testBit 1 (.reg .a))
/-- `BIT 2,B`, `CB 50` (R374). -/
abbrev exec_bit_2_B (s : State) : Outcome := withExt s (testBit 2 (.reg .b))
/-- `BIT 2,C`, `CB 51` (R374). -/
abbrev exec_bit_2_C (s : State) : Outcome := withExt s (testBit 2 (.reg .c))
/-- `BIT 2,D`, `CB 52` (R374). -/
abbrev exec_bit_2_D (s : State) : Outcome := withExt s (testBit 2 (.reg .d))
/-- `BIT 2,E`, `CB 53` (R374). -/
abbrev exec_bit_2_E (s : State) : Outcome := withExt s (testBit 2 (.reg .e))
/-- `BIT 2,H`, `CB 54` (R374). -/
abbrev exec_bit_2_H (s : State) : Outcome := withExt s (testBit 2 (.reg .h))
/-- `BIT 2,L`, `CB 55` (R374). -/
abbrev exec_bit_2_L (s : State) : Outcome := withExt s (testBit 2 (.reg .l))
/-- `BIT 2,(HL)`, `CB 56` (R374). -/
abbrev exec_bit_2_mHL (s : State) : Outcome := withExt s (testBit 2 .mHL)
/-- `BIT 2,A`, `CB 57` (R374). -/
abbrev exec_bit_2_A (s : State) : Outcome := withExt s (testBit 2 (.reg .a))
/-- `BIT 3,B`, `CB 58` (R374). -/
abbrev exec_bit_3_B (s : State) : Outcome := withExt s (testBit 3 (.reg .b))
/-- `BIT 3,C`, `CB 59` (R374). -/
abbrev exec_bit_3_C (s : State) : Outcome := withExt s (testBit 3 (.reg .c))
/-- `BIT 3,D`, `CB 5A` (R374). -/
abbrev exec_bit_3_D (s : State) : Outcome := withExt s (testBit 3 (.reg .d))
/-- `BIT 3,E`, `CB 5B` (R374). -/
abbrev exec_bit_3_E (s : State) : Outcome := withExt s (testBit 3 (.reg .e))
/-- `BIT 3,H`, `CB 5C` (R374). -/
abbrev exec_bit_3_H (s : State) : Outcome := withExt s (testBit 3 (.reg .h))
/-- `BIT 3,L`, `CB 5D` (R374). -/
abbrev exec_bit_3_L (s : State) : Outcome := withExt s (testBit 3 (.reg .l))
/-- `BIT 3,(HL)`, `CB 5E` (R374). -/
abbrev exec_bit_3_mHL (s : State) : Outcome := withExt s (testBit 3 .mHL)
/-- `BIT 3,A`, `CB 5F` (R374). -/
abbrev exec_bit_3_A (s : State) : Outcome := withExt s (testBit 3 (.reg .a))
/-- `BIT 4,B`, `CB 60` (R374). -/
abbrev exec_bit_4_B (s : State) : Outcome := withExt s (testBit 4 (.reg .b))
/-- `BIT 4,C`, `CB 61` (R374). -/
abbrev exec_bit_4_C (s : State) : Outcome := withExt s (testBit 4 (.reg .c))
/-- `BIT 4,D`, `CB 62` (R374). -/
abbrev exec_bit_4_D (s : State) : Outcome := withExt s (testBit 4 (.reg .d))
/-- `BIT 4,E`, `CB 63` (R374). -/
abbrev exec_bit_4_E (s : State) : Outcome := withExt s (testBit 4 (.reg .e))
/-- `BIT 4,H`, `CB 64` (R374). -/
abbrev exec_bit_4_H (s : State) : Outcome := withExt s (testBit 4 (.reg .h))
/-- `BIT 4,L`, `CB 65` (R374). -/
abbrev exec_bit_4_L (s : State) : Outcome := withExt s (testBit 4 (.reg .l))
/-- `BIT 4,(HL)`, `CB 66` (R374). -/
abbrev exec_bit_4_mHL (s : State) : Outcome := withExt s (testBit 4 .mHL)
/-- `BIT 4,A`, `CB 67` (R374). -/
abbrev exec_bit_4_A (s : State) : Outcome := withExt s (testBit 4 (.reg .a))
/-- `BIT 5,B`, `CB 68` (R374). -/
abbrev exec_bit_5_B (s : State) : Outcome := withExt s (testBit 5 (.reg .b))
/-- `BIT 5,C`, `CB 69` (R374). -/
abbrev exec_bit_5_C (s : State) : Outcome := withExt s (testBit 5 (.reg .c))
/-- `BIT 5,D`, `CB 6A` (R374). -/
abbrev exec_bit_5_D (s : State) : Outcome := withExt s (testBit 5 (.reg .d))
/-- `BIT 5,E`, `CB 6B` (R374). -/
abbrev exec_bit_5_E (s : State) : Outcome := withExt s (testBit 5 (.reg .e))
/-- `BIT 5,H`, `CB 6C` (R374). -/
abbrev exec_bit_5_H (s : State) : Outcome := withExt s (testBit 5 (.reg .h))
/-- `BIT 5,L`, `CB 6D` (R374). -/
abbrev exec_bit_5_L (s : State) : Outcome := withExt s (testBit 5 (.reg .l))
/-- `BIT 5,(HL)`, `CB 6E` (R374). -/
abbrev exec_bit_5_mHL (s : State) : Outcome := withExt s (testBit 5 .mHL)
/-- `BIT 5,A`, `CB 6F` (R374). -/
abbrev exec_bit_5_A (s : State) : Outcome := withExt s (testBit 5 (.reg .a))
/-- `BIT 6,B`, `CB 70` (R374). -/
abbrev exec_bit_6_B (s : State) : Outcome := withExt s (testBit 6 (.reg .b))
/-- `BIT 6,C`, `CB 71` (R374). -/
abbrev exec_bit_6_C (s : State) : Outcome := withExt s (testBit 6 (.reg .c))
/-- `BIT 6,D`, `CB 72` (R374). -/
abbrev exec_bit_6_D (s : State) : Outcome := withExt s (testBit 6 (.reg .d))
/-- `BIT 6,E`, `CB 73` (R374). -/
abbrev exec_bit_6_E (s : State) : Outcome := withExt s (testBit 6 (.reg .e))
/-- `BIT 6,H`, `CB 74` (R374). -/
abbrev exec_bit_6_H (s : State) : Outcome := withExt s (testBit 6 (.reg .h))
/-- `BIT 6,L`, `CB 75` (R374). -/
abbrev exec_bit_6_L (s : State) : Outcome := withExt s (testBit 6 (.reg .l))
/-- `BIT 6,(HL)`, `CB 76` (R374). -/
abbrev exec_bit_6_mHL (s : State) : Outcome := withExt s (testBit 6 .mHL)
/-- `BIT 6,A`, `CB 77` (R374). -/
abbrev exec_bit_6_A (s : State) : Outcome := withExt s (testBit 6 (.reg .a))
/-- `BIT 7,B`, `CB 78` (R374). -/
abbrev exec_bit_7_B (s : State) : Outcome := withExt s (testBit 7 (.reg .b))
/-- `BIT 7,C`, `CB 79` (R374). -/
abbrev exec_bit_7_C (s : State) : Outcome := withExt s (testBit 7 (.reg .c))
/-- `BIT 7,D`, `CB 7A` (R374). -/
abbrev exec_bit_7_D (s : State) : Outcome := withExt s (testBit 7 (.reg .d))
/-- `BIT 7,E`, `CB 7B` (R374). -/
abbrev exec_bit_7_E (s : State) : Outcome := withExt s (testBit 7 (.reg .e))
/-- `BIT 7,H`, `CB 7C` (R374). -/
abbrev exec_bit_7_H (s : State) : Outcome := withExt s (testBit 7 (.reg .h))
/-- `BIT 7,L`, `CB 7D` (R374). -/
abbrev exec_bit_7_L (s : State) : Outcome := withExt s (testBit 7 (.reg .l))
/-- `BIT 7,(HL)`, `CB 7E` (R374). -/
abbrev exec_bit_7_mHL (s : State) : Outcome := withExt s (testBit 7 .mHL)
/-- `BIT 7,A`, `CB 7F` (R374). -/
abbrev exec_bit_7_A (s : State) : Outcome := withExt s (testBit 7 (.reg .a))
/-- `RES 0,B`, `CB 80` (R375). -/
abbrev exec_res_0_B (s : State) : Outcome := withExt s (resetBit 0 (.reg .b))
/-- `RES 0,C`, `CB 81` (R375). -/
abbrev exec_res_0_C (s : State) : Outcome := withExt s (resetBit 0 (.reg .c))
/-- `RES 0,D`, `CB 82` (R375). -/
abbrev exec_res_0_D (s : State) : Outcome := withExt s (resetBit 0 (.reg .d))
/-- `RES 0,E`, `CB 83` (R375). -/
abbrev exec_res_0_E (s : State) : Outcome := withExt s (resetBit 0 (.reg .e))
/-- `RES 0,H`, `CB 84` (R375). -/
abbrev exec_res_0_H (s : State) : Outcome := withExt s (resetBit 0 (.reg .h))
/-- `RES 0,L`, `CB 85` (R375). -/
abbrev exec_res_0_L (s : State) : Outcome := withExt s (resetBit 0 (.reg .l))
/-- `RES 0,(HL)`, `CB 86` (R375). -/
abbrev exec_res_0_mHL (s : State) : Outcome := withExt s (resetBit 0 .mHL)
/-- `RES 0,A`, `CB 87` (R375). -/
abbrev exec_res_0_A (s : State) : Outcome := withExt s (resetBit 0 (.reg .a))
/-- `RES 1,B`, `CB 88` (R375). -/
abbrev exec_res_1_B (s : State) : Outcome := withExt s (resetBit 1 (.reg .b))
/-- `RES 1,C`, `CB 89` (R375). -/
abbrev exec_res_1_C (s : State) : Outcome := withExt s (resetBit 1 (.reg .c))
/-- `RES 1,D`, `CB 8A` (R375). -/
abbrev exec_res_1_D (s : State) : Outcome := withExt s (resetBit 1 (.reg .d))
/-- `RES 1,E`, `CB 8B` (R375). -/
abbrev exec_res_1_E (s : State) : Outcome := withExt s (resetBit 1 (.reg .e))
/-- `RES 1,H`, `CB 8C` (R375). -/
abbrev exec_res_1_H (s : State) : Outcome := withExt s (resetBit 1 (.reg .h))
/-- `RES 1,L`, `CB 8D` (R375). -/
abbrev exec_res_1_L (s : State) : Outcome := withExt s (resetBit 1 (.reg .l))
/-- `RES 1,(HL)`, `CB 8E` (R375). -/
abbrev exec_res_1_mHL (s : State) : Outcome := withExt s (resetBit 1 .mHL)
/-- `RES 1,A`, `CB 8F` (R375). -/
abbrev exec_res_1_A (s : State) : Outcome := withExt s (resetBit 1 (.reg .a))
/-- `RES 2,B`, `CB 90` (R375). -/
abbrev exec_res_2_B (s : State) : Outcome := withExt s (resetBit 2 (.reg .b))
/-- `RES 2,C`, `CB 91` (R375). -/
abbrev exec_res_2_C (s : State) : Outcome := withExt s (resetBit 2 (.reg .c))
/-- `RES 2,D`, `CB 92` (R375). -/
abbrev exec_res_2_D (s : State) : Outcome := withExt s (resetBit 2 (.reg .d))
/-- `RES 2,E`, `CB 93` (R375). -/
abbrev exec_res_2_E (s : State) : Outcome := withExt s (resetBit 2 (.reg .e))
/-- `RES 2,H`, `CB 94` (R375). -/
abbrev exec_res_2_H (s : State) : Outcome := withExt s (resetBit 2 (.reg .h))
/-- `RES 2,L`, `CB 95` (R375). -/
abbrev exec_res_2_L (s : State) : Outcome := withExt s (resetBit 2 (.reg .l))
/-- `RES 2,(HL)`, `CB 96` (R375). -/
abbrev exec_res_2_mHL (s : State) : Outcome := withExt s (resetBit 2 .mHL)
/-- `RES 2,A`, `CB 97` (R375). -/
abbrev exec_res_2_A (s : State) : Outcome := withExt s (resetBit 2 (.reg .a))
/-- `RES 3,B`, `CB 98` (R375). -/
abbrev exec_res_3_B (s : State) : Outcome := withExt s (resetBit 3 (.reg .b))
/-- `RES 3,C`, `CB 99` (R375). -/
abbrev exec_res_3_C (s : State) : Outcome := withExt s (resetBit 3 (.reg .c))
/-- `RES 3,D`, `CB 9A` (R375). -/
abbrev exec_res_3_D (s : State) : Outcome := withExt s (resetBit 3 (.reg .d))
/-- `RES 3,E`, `CB 9B` (R375). -/
abbrev exec_res_3_E (s : State) : Outcome := withExt s (resetBit 3 (.reg .e))
/-- `RES 3,H`, `CB 9C` (R375). -/
abbrev exec_res_3_H (s : State) : Outcome := withExt s (resetBit 3 (.reg .h))
/-- `RES 3,L`, `CB 9D` (R375). -/
abbrev exec_res_3_L (s : State) : Outcome := withExt s (resetBit 3 (.reg .l))
/-- `RES 3,(HL)`, `CB 9E` (R375). -/
abbrev exec_res_3_mHL (s : State) : Outcome := withExt s (resetBit 3 .mHL)
/-- `RES 3,A`, `CB 9F` (R375). -/
abbrev exec_res_3_A (s : State) : Outcome := withExt s (resetBit 3 (.reg .a))
/-- `RES 4,B`, `CB A0` (R375). -/
abbrev exec_res_4_B (s : State) : Outcome := withExt s (resetBit 4 (.reg .b))
/-- `RES 4,C`, `CB A1` (R375). -/
abbrev exec_res_4_C (s : State) : Outcome := withExt s (resetBit 4 (.reg .c))
/-- `RES 4,D`, `CB A2` (R375). -/
abbrev exec_res_4_D (s : State) : Outcome := withExt s (resetBit 4 (.reg .d))
/-- `RES 4,E`, `CB A3` (R375). -/
abbrev exec_res_4_E (s : State) : Outcome := withExt s (resetBit 4 (.reg .e))
/-- `RES 4,H`, `CB A4` (R375). -/
abbrev exec_res_4_H (s : State) : Outcome := withExt s (resetBit 4 (.reg .h))
/-- `RES 4,L`, `CB A5` (R375). -/
abbrev exec_res_4_L (s : State) : Outcome := withExt s (resetBit 4 (.reg .l))
/-- `RES 4,(HL)`, `CB A6` (R375). -/
abbrev exec_res_4_mHL (s : State) : Outcome := withExt s (resetBit 4 .mHL)
/-- `RES 4,A`, `CB A7` (R375). -/
abbrev exec_res_4_A (s : State) : Outcome := withExt s (resetBit 4 (.reg .a))
/-- `RES 5,B`, `CB A8` (R375). -/
abbrev exec_res_5_B (s : State) : Outcome := withExt s (resetBit 5 (.reg .b))
/-- `RES 5,C`, `CB A9` (R375). -/
abbrev exec_res_5_C (s : State) : Outcome := withExt s (resetBit 5 (.reg .c))
/-- `RES 5,D`, `CB AA` (R375). -/
abbrev exec_res_5_D (s : State) : Outcome := withExt s (resetBit 5 (.reg .d))
/-- `RES 5,E`, `CB AB` (R375). -/
abbrev exec_res_5_E (s : State) : Outcome := withExt s (resetBit 5 (.reg .e))
/-- `RES 5,H`, `CB AC` (R375). -/
abbrev exec_res_5_H (s : State) : Outcome := withExt s (resetBit 5 (.reg .h))
/-- `RES 5,L`, `CB AD` (R375). -/
abbrev exec_res_5_L (s : State) : Outcome := withExt s (resetBit 5 (.reg .l))
/-- `RES 5,(HL)`, `CB AE` (R375). -/
abbrev exec_res_5_mHL (s : State) : Outcome := withExt s (resetBit 5 .mHL)
/-- `RES 5,A`, `CB AF` (R375). -/
abbrev exec_res_5_A (s : State) : Outcome := withExt s (resetBit 5 (.reg .a))
/-- `RES 6,B`, `CB B0` (R375). -/
abbrev exec_res_6_B (s : State) : Outcome := withExt s (resetBit 6 (.reg .b))
/-- `RES 6,C`, `CB B1` (R375). -/
abbrev exec_res_6_C (s : State) : Outcome := withExt s (resetBit 6 (.reg .c))
/-- `RES 6,D`, `CB B2` (R375). -/
abbrev exec_res_6_D (s : State) : Outcome := withExt s (resetBit 6 (.reg .d))
/-- `RES 6,E`, `CB B3` (R375). -/
abbrev exec_res_6_E (s : State) : Outcome := withExt s (resetBit 6 (.reg .e))
/-- `RES 6,H`, `CB B4` (R375). -/
abbrev exec_res_6_H (s : State) : Outcome := withExt s (resetBit 6 (.reg .h))
/-- `RES 6,L`, `CB B5` (R375). -/
abbrev exec_res_6_L (s : State) : Outcome := withExt s (resetBit 6 (.reg .l))
/-- `RES 6,(HL)`, `CB B6` (R375). -/
abbrev exec_res_6_mHL (s : State) : Outcome := withExt s (resetBit 6 .mHL)
/-- `RES 6,A`, `CB B7` (R375). -/
abbrev exec_res_6_A (s : State) : Outcome := withExt s (resetBit 6 (.reg .a))
/-- `RES 7,B`, `CB B8` (R375). -/
abbrev exec_res_7_B (s : State) : Outcome := withExt s (resetBit 7 (.reg .b))
/-- `RES 7,C`, `CB B9` (R375). -/
abbrev exec_res_7_C (s : State) : Outcome := withExt s (resetBit 7 (.reg .c))
/-- `RES 7,D`, `CB BA` (R375). -/
abbrev exec_res_7_D (s : State) : Outcome := withExt s (resetBit 7 (.reg .d))
/-- `RES 7,E`, `CB BB` (R375). -/
abbrev exec_res_7_E (s : State) : Outcome := withExt s (resetBit 7 (.reg .e))
/-- `RES 7,H`, `CB BC` (R375). -/
abbrev exec_res_7_H (s : State) : Outcome := withExt s (resetBit 7 (.reg .h))
/-- `RES 7,L`, `CB BD` (R375). -/
abbrev exec_res_7_L (s : State) : Outcome := withExt s (resetBit 7 (.reg .l))
/-- `RES 7,(HL)`, `CB BE` (R375). -/
abbrev exec_res_7_mHL (s : State) : Outcome := withExt s (resetBit 7 .mHL)
/-- `RES 7,A`, `CB BF` (R375). -/
abbrev exec_res_7_A (s : State) : Outcome := withExt s (resetBit 7 (.reg .a))
/-- `SET 0,B`, `CB C0` (R376). -/
abbrev exec_set_0_B (s : State) : Outcome := withExt s (setBit 0 (.reg .b))
/-- `SET 0,C`, `CB C1` (R376). -/
abbrev exec_set_0_C (s : State) : Outcome := withExt s (setBit 0 (.reg .c))
/-- `SET 0,D`, `CB C2` (R376). -/
abbrev exec_set_0_D (s : State) : Outcome := withExt s (setBit 0 (.reg .d))
/-- `SET 0,E`, `CB C3` (R376). -/
abbrev exec_set_0_E (s : State) : Outcome := withExt s (setBit 0 (.reg .e))
/-- `SET 0,H`, `CB C4` (R376). -/
abbrev exec_set_0_H (s : State) : Outcome := withExt s (setBit 0 (.reg .h))
/-- `SET 0,L`, `CB C5` (R376). -/
abbrev exec_set_0_L (s : State) : Outcome := withExt s (setBit 0 (.reg .l))
/-- `SET 0,(HL)`, `CB C6` (R376). -/
abbrev exec_set_0_mHL (s : State) : Outcome := withExt s (setBit 0 .mHL)
/-- `SET 0,A`, `CB C7` (R376). -/
abbrev exec_set_0_A (s : State) : Outcome := withExt s (setBit 0 (.reg .a))
/-- `SET 1,B`, `CB C8` (R376). -/
abbrev exec_set_1_B (s : State) : Outcome := withExt s (setBit 1 (.reg .b))
/-- `SET 1,C`, `CB C9` (R376). -/
abbrev exec_set_1_C (s : State) : Outcome := withExt s (setBit 1 (.reg .c))
/-- `SET 1,D`, `CB CA` (R376). -/
abbrev exec_set_1_D (s : State) : Outcome := withExt s (setBit 1 (.reg .d))
/-- `SET 1,E`, `CB CB` (R376). -/
abbrev exec_set_1_E (s : State) : Outcome := withExt s (setBit 1 (.reg .e))
/-- `SET 1,H`, `CB CC` (R376). -/
abbrev exec_set_1_H (s : State) : Outcome := withExt s (setBit 1 (.reg .h))
/-- `SET 1,L`, `CB CD` (R376). -/
abbrev exec_set_1_L (s : State) : Outcome := withExt s (setBit 1 (.reg .l))
/-- `SET 1,(HL)`, `CB CE` (R376). -/
abbrev exec_set_1_mHL (s : State) : Outcome := withExt s (setBit 1 .mHL)
/-- `SET 1,A`, `CB CF` (R376). -/
abbrev exec_set_1_A (s : State) : Outcome := withExt s (setBit 1 (.reg .a))
/-- `SET 2,B`, `CB D0` (R376). -/
abbrev exec_set_2_B (s : State) : Outcome := withExt s (setBit 2 (.reg .b))
/-- `SET 2,C`, `CB D1` (R376). -/
abbrev exec_set_2_C (s : State) : Outcome := withExt s (setBit 2 (.reg .c))
/-- `SET 2,D`, `CB D2` (R376). -/
abbrev exec_set_2_D (s : State) : Outcome := withExt s (setBit 2 (.reg .d))
/-- `SET 2,E`, `CB D3` (R376). -/
abbrev exec_set_2_E (s : State) : Outcome := withExt s (setBit 2 (.reg .e))
/-- `SET 2,H`, `CB D4` (R376). -/
abbrev exec_set_2_H (s : State) : Outcome := withExt s (setBit 2 (.reg .h))
/-- `SET 2,L`, `CB D5` (R376). -/
abbrev exec_set_2_L (s : State) : Outcome := withExt s (setBit 2 (.reg .l))
/-- `SET 2,(HL)`, `CB D6` (R376). -/
abbrev exec_set_2_mHL (s : State) : Outcome := withExt s (setBit 2 .mHL)
/-- `SET 2,A`, `CB D7` (R376). -/
abbrev exec_set_2_A (s : State) : Outcome := withExt s (setBit 2 (.reg .a))
/-- `SET 3,B`, `CB D8` (R376). -/
abbrev exec_set_3_B (s : State) : Outcome := withExt s (setBit 3 (.reg .b))
/-- `SET 3,C`, `CB D9` (R376). -/
abbrev exec_set_3_C (s : State) : Outcome := withExt s (setBit 3 (.reg .c))
/-- `SET 3,D`, `CB DA` (R376). -/
abbrev exec_set_3_D (s : State) : Outcome := withExt s (setBit 3 (.reg .d))
/-- `SET 3,E`, `CB DB` (R376). -/
abbrev exec_set_3_E (s : State) : Outcome := withExt s (setBit 3 (.reg .e))
/-- `SET 3,H`, `CB DC` (R376). -/
abbrev exec_set_3_H (s : State) : Outcome := withExt s (setBit 3 (.reg .h))
/-- `SET 3,L`, `CB DD` (R376). -/
abbrev exec_set_3_L (s : State) : Outcome := withExt s (setBit 3 (.reg .l))
/-- `SET 3,(HL)`, `CB DE` (R376). -/
abbrev exec_set_3_mHL (s : State) : Outcome := withExt s (setBit 3 .mHL)
/-- `SET 3,A`, `CB DF` (R376). -/
abbrev exec_set_3_A (s : State) : Outcome := withExt s (setBit 3 (.reg .a))
/-- `SET 4,B`, `CB E0` (R376). -/
abbrev exec_set_4_B (s : State) : Outcome := withExt s (setBit 4 (.reg .b))
/-- `SET 4,C`, `CB E1` (R376). -/
abbrev exec_set_4_C (s : State) : Outcome := withExt s (setBit 4 (.reg .c))
/-- `SET 4,D`, `CB E2` (R376). -/
abbrev exec_set_4_D (s : State) : Outcome := withExt s (setBit 4 (.reg .d))
/-- `SET 4,E`, `CB E3` (R376). -/
abbrev exec_set_4_E (s : State) : Outcome := withExt s (setBit 4 (.reg .e))
/-- `SET 4,H`, `CB E4` (R376). -/
abbrev exec_set_4_H (s : State) : Outcome := withExt s (setBit 4 (.reg .h))
/-- `SET 4,L`, `CB E5` (R376). -/
abbrev exec_set_4_L (s : State) : Outcome := withExt s (setBit 4 (.reg .l))
/-- `SET 4,(HL)`, `CB E6` (R376). -/
abbrev exec_set_4_mHL (s : State) : Outcome := withExt s (setBit 4 .mHL)
/-- `SET 4,A`, `CB E7` (R376). -/
abbrev exec_set_4_A (s : State) : Outcome := withExt s (setBit 4 (.reg .a))
/-- `SET 5,B`, `CB E8` (R376). -/
abbrev exec_set_5_B (s : State) : Outcome := withExt s (setBit 5 (.reg .b))
/-- `SET 5,C`, `CB E9` (R376). -/
abbrev exec_set_5_C (s : State) : Outcome := withExt s (setBit 5 (.reg .c))
/-- `SET 5,D`, `CB EA` (R376). -/
abbrev exec_set_5_D (s : State) : Outcome := withExt s (setBit 5 (.reg .d))
/-- `SET 5,E`, `CB EB` (R376). -/
abbrev exec_set_5_E (s : State) : Outcome := withExt s (setBit 5 (.reg .e))
/-- `SET 5,H`, `CB EC` (R376). -/
abbrev exec_set_5_H (s : State) : Outcome := withExt s (setBit 5 (.reg .h))
/-- `SET 5,L`, `CB ED` (R376). -/
abbrev exec_set_5_L (s : State) : Outcome := withExt s (setBit 5 (.reg .l))
/-- `SET 5,(HL)`, `CB EE` (R376). -/
abbrev exec_set_5_mHL (s : State) : Outcome := withExt s (setBit 5 .mHL)
/-- `SET 5,A`, `CB EF` (R376). -/
abbrev exec_set_5_A (s : State) : Outcome := withExt s (setBit 5 (.reg .a))
/-- `SET 6,B`, `CB F0` (R376). -/
abbrev exec_set_6_B (s : State) : Outcome := withExt s (setBit 6 (.reg .b))
/-- `SET 6,C`, `CB F1` (R376). -/
abbrev exec_set_6_C (s : State) : Outcome := withExt s (setBit 6 (.reg .c))
/-- `SET 6,D`, `CB F2` (R376). -/
abbrev exec_set_6_D (s : State) : Outcome := withExt s (setBit 6 (.reg .d))
/-- `SET 6,E`, `CB F3` (R376). -/
abbrev exec_set_6_E (s : State) : Outcome := withExt s (setBit 6 (.reg .e))
/-- `SET 6,H`, `CB F4` (R376). -/
abbrev exec_set_6_H (s : State) : Outcome := withExt s (setBit 6 (.reg .h))
/-- `SET 6,L`, `CB F5` (R376). -/
abbrev exec_set_6_L (s : State) : Outcome := withExt s (setBit 6 (.reg .l))
/-- `SET 6,(HL)`, `CB F6` (R376). -/
abbrev exec_set_6_mHL (s : State) : Outcome := withExt s (setBit 6 .mHL)
/-- `SET 6,A`, `CB F7` (R376). -/
abbrev exec_set_6_A (s : State) : Outcome := withExt s (setBit 6 (.reg .a))
/-- `SET 7,B`, `CB F8` (R376). -/
abbrev exec_set_7_B (s : State) : Outcome := withExt s (setBit 7 (.reg .b))
/-- `SET 7,C`, `CB F9` (R376). -/
abbrev exec_set_7_C (s : State) : Outcome := withExt s (setBit 7 (.reg .c))
/-- `SET 7,D`, `CB FA` (R376). -/
abbrev exec_set_7_D (s : State) : Outcome := withExt s (setBit 7 (.reg .d))
/-- `SET 7,E`, `CB FB` (R376). -/
abbrev exec_set_7_E (s : State) : Outcome := withExt s (setBit 7 (.reg .e))
/-- `SET 7,H`, `CB FC` (R376). -/
abbrev exec_set_7_H (s : State) : Outcome := withExt s (setBit 7 (.reg .h))
/-- `SET 7,L`, `CB FD` (R376). -/
abbrev exec_set_7_L (s : State) : Outcome := withExt s (setBit 7 (.reg .l))
/-- `SET 7,(HL)`, `CB FE` (R376). -/
abbrev exec_set_7_mHL (s : State) : Outcome := withExt s (setBit 7 .mHL)
/-- `SET 7,A`, `CB FF` (R376). -/
abbrev exec_set_7_A (s : State) : Outcome := withExt s (setBit 7 (.reg .a))

end Sys2Proof.Machine
end

