-- ==== Sys2Proof/Machine/CbShift.lean ====
section
/-!
DEFINITION. CB-prefixed rotates and shifts (spec/47_unimplemented_and_ext.md R367 to R373, R377), with
EXT_LR35902 only.
-/

namespace Sys2Proof.Machine

/-- `RLC B`, `CB 00` (R367). -/
abbrev exec_rlc_B (s : State) : Outcome := withExt s (shiftTarget .rlc (.reg .b))
/-- `RLC C`, `CB 01` (R367). -/
abbrev exec_rlc_C (s : State) : Outcome := withExt s (shiftTarget .rlc (.reg .c))
/-- `RLC D`, `CB 02` (R367). -/
abbrev exec_rlc_D (s : State) : Outcome := withExt s (shiftTarget .rlc (.reg .d))
/-- `RLC E`, `CB 03` (R367). -/
abbrev exec_rlc_E (s : State) : Outcome := withExt s (shiftTarget .rlc (.reg .e))
/-- `RLC H`, `CB 04` (R367). -/
abbrev exec_rlc_H (s : State) : Outcome := withExt s (shiftTarget .rlc (.reg .h))
/-- `RLC L`, `CB 05` (R367). -/
abbrev exec_rlc_L (s : State) : Outcome := withExt s (shiftTarget .rlc (.reg .l))
/-- `RLC (HL)`, `CB 06` (R367). -/
abbrev exec_rlc_mHL (s : State) : Outcome := withExt s (shiftTarget .rlc .mHL)
/-- `RLC A`, `CB 07` (R367). -/
abbrev exec_rlc_A (s : State) : Outcome := withExt s (shiftTarget .rlc (.reg .a))
/-- `RRC B`, `CB 08` (R368). -/
abbrev exec_rrc_B (s : State) : Outcome := withExt s (shiftTarget .rrc (.reg .b))
/-- `RRC C`, `CB 09` (R368). -/
abbrev exec_rrc_C (s : State) : Outcome := withExt s (shiftTarget .rrc (.reg .c))
/-- `RRC D`, `CB 0A` (R368). -/
abbrev exec_rrc_D (s : State) : Outcome := withExt s (shiftTarget .rrc (.reg .d))
/-- `RRC E`, `CB 0B` (R368). -/
abbrev exec_rrc_E (s : State) : Outcome := withExt s (shiftTarget .rrc (.reg .e))
/-- `RRC H`, `CB 0C` (R368). -/
abbrev exec_rrc_H (s : State) : Outcome := withExt s (shiftTarget .rrc (.reg .h))
/-- `RRC L`, `CB 0D` (R368). -/
abbrev exec_rrc_L (s : State) : Outcome := withExt s (shiftTarget .rrc (.reg .l))
/-- `RRC (HL)`, `CB 0E` (R368). -/
abbrev exec_rrc_mHL (s : State) : Outcome := withExt s (shiftTarget .rrc .mHL)
/-- `RRC A`, `CB 0F` (R368). -/
abbrev exec_rrc_A (s : State) : Outcome := withExt s (shiftTarget .rrc (.reg .a))
/-- `RL B`, `CB 10` (R369). -/
abbrev exec_rl_B (s : State) : Outcome := withExt s (shiftTarget .rl (.reg .b))
/-- `RL C`, `CB 11` (R369). -/
abbrev exec_rl_C (s : State) : Outcome := withExt s (shiftTarget .rl (.reg .c))
/-- `RL D`, `CB 12` (R369). -/
abbrev exec_rl_D (s : State) : Outcome := withExt s (shiftTarget .rl (.reg .d))
/-- `RL E`, `CB 13` (R369). -/
abbrev exec_rl_E (s : State) : Outcome := withExt s (shiftTarget .rl (.reg .e))
/-- `RL H`, `CB 14` (R369). -/
abbrev exec_rl_H (s : State) : Outcome := withExt s (shiftTarget .rl (.reg .h))
/-- `RL L`, `CB 15` (R369). -/
abbrev exec_rl_L (s : State) : Outcome := withExt s (shiftTarget .rl (.reg .l))
/-- `RL (HL)`, `CB 16` (R369). -/
abbrev exec_rl_mHL (s : State) : Outcome := withExt s (shiftTarget .rl .mHL)
/-- `RL A`, `CB 17` (R369). -/
abbrev exec_rl_A (s : State) : Outcome := withExt s (shiftTarget .rl (.reg .a))
/-- `RR B`, `CB 18` (R370). -/
abbrev exec_rr_B (s : State) : Outcome := withExt s (shiftTarget .rr (.reg .b))
/-- `RR C`, `CB 19` (R370). -/
abbrev exec_rr_C (s : State) : Outcome := withExt s (shiftTarget .rr (.reg .c))
/-- `RR D`, `CB 1A` (R370). -/
abbrev exec_rr_D (s : State) : Outcome := withExt s (shiftTarget .rr (.reg .d))
/-- `RR E`, `CB 1B` (R370). -/
abbrev exec_rr_E (s : State) : Outcome := withExt s (shiftTarget .rr (.reg .e))
/-- `RR H`, `CB 1C` (R370). -/
abbrev exec_rr_H (s : State) : Outcome := withExt s (shiftTarget .rr (.reg .h))
/-- `RR L`, `CB 1D` (R370). -/
abbrev exec_rr_L (s : State) : Outcome := withExt s (shiftTarget .rr (.reg .l))
/-- `RR (HL)`, `CB 1E` (R370). -/
abbrev exec_rr_mHL (s : State) : Outcome := withExt s (shiftTarget .rr .mHL)
/-- `RR A`, `CB 1F` (R370). -/
abbrev exec_rr_A (s : State) : Outcome := withExt s (shiftTarget .rr (.reg .a))
/-- `SLA B`, `CB 20` (R371). -/
abbrev exec_sla_B (s : State) : Outcome := withExt s (shiftTarget .sla (.reg .b))
/-- `SLA C`, `CB 21` (R371). -/
abbrev exec_sla_C (s : State) : Outcome := withExt s (shiftTarget .sla (.reg .c))
/-- `SLA D`, `CB 22` (R371). -/
abbrev exec_sla_D (s : State) : Outcome := withExt s (shiftTarget .sla (.reg .d))
/-- `SLA E`, `CB 23` (R371). -/
abbrev exec_sla_E (s : State) : Outcome := withExt s (shiftTarget .sla (.reg .e))
/-- `SLA H`, `CB 24` (R371). -/
abbrev exec_sla_H (s : State) : Outcome := withExt s (shiftTarget .sla (.reg .h))
/-- `SLA L`, `CB 25` (R371). -/
abbrev exec_sla_L (s : State) : Outcome := withExt s (shiftTarget .sla (.reg .l))
/-- `SLA (HL)`, `CB 26` (R371). -/
abbrev exec_sla_mHL (s : State) : Outcome := withExt s (shiftTarget .sla .mHL)
/-- `SLA A`, `CB 27` (R371). -/
abbrev exec_sla_A (s : State) : Outcome := withExt s (shiftTarget .sla (.reg .a))
/-- `SRA B`, `CB 28` (R372). -/
abbrev exec_sra_B (s : State) : Outcome := withExt s (shiftTarget .sra (.reg .b))
/-- `SRA C`, `CB 29` (R372). -/
abbrev exec_sra_C (s : State) : Outcome := withExt s (shiftTarget .sra (.reg .c))
/-- `SRA D`, `CB 2A` (R372). -/
abbrev exec_sra_D (s : State) : Outcome := withExt s (shiftTarget .sra (.reg .d))
/-- `SRA E`, `CB 2B` (R372). -/
abbrev exec_sra_E (s : State) : Outcome := withExt s (shiftTarget .sra (.reg .e))
/-- `SRA H`, `CB 2C` (R372). -/
abbrev exec_sra_H (s : State) : Outcome := withExt s (shiftTarget .sra (.reg .h))
/-- `SRA L`, `CB 2D` (R372). -/
abbrev exec_sra_L (s : State) : Outcome := withExt s (shiftTarget .sra (.reg .l))
/-- `SRA (HL)`, `CB 2E` (R372). -/
abbrev exec_sra_mHL (s : State) : Outcome := withExt s (shiftTarget .sra .mHL)
/-- `SRA A`, `CB 2F` (R372). -/
abbrev exec_sra_A (s : State) : Outcome := withExt s (shiftTarget .sra (.reg .a))
/-- `SRL B`, `CB 38` (R373). -/
abbrev exec_srl_B (s : State) : Outcome := withExt s (shiftTarget .srl (.reg .b))
/-- `SRL C`, `CB 39` (R373). -/
abbrev exec_srl_C (s : State) : Outcome := withExt s (shiftTarget .srl (.reg .c))
/-- `SRL D`, `CB 3A` (R373). -/
abbrev exec_srl_D (s : State) : Outcome := withExt s (shiftTarget .srl (.reg .d))
/-- `SRL E`, `CB 3B` (R373). -/
abbrev exec_srl_E (s : State) : Outcome := withExt s (shiftTarget .srl (.reg .e))
/-- `SRL H`, `CB 3C` (R373). -/
abbrev exec_srl_H (s : State) : Outcome := withExt s (shiftTarget .srl (.reg .h))
/-- `SRL L`, `CB 3D` (R373). -/
abbrev exec_srl_L (s : State) : Outcome := withExt s (shiftTarget .srl (.reg .l))
/-- `SRL (HL)`, `CB 3E` (R373). -/
abbrev exec_srl_mHL (s : State) : Outcome := withExt s (shiftTarget .srl .mHL)
/-- `SRL A`, `CB 3F` (R373). -/
abbrev exec_srl_A (s : State) : Outcome := withExt s (shiftTarget .srl (.reg .a))

end Sys2Proof.Machine
end

