-- ==== Sys2Proof/Machine/Control.lean ====
section
/-!
DEFINITION. Control transfer (spec/45_control.md R310 to R323).
-/

namespace Sys2Proof.Machine

/-- `NOP`, `00` (R312). -/
abbrev exec_nop (s : State) : Outcome := s.done 1
/-- `JR e`, `18` (R316). -/
abbrev exec_jr_e (e : Byte) (s : State) : Outcome := jumpTo (relativeTarget s.pc e) s
/-- `JR NZ,e`, `20` (R317). -/
abbrev exec_jr_NZ_e (e : Byte) (s : State) : Outcome := jumpIf .nz (relativeTarget s.pc e) 2 s
/-- `JR Z,e`, `28` (R317). -/
abbrev exec_jr_Z_e (e : Byte) (s : State) : Outcome := jumpIf .z (relativeTarget s.pc e) 2 s
/-- `JR NC,e`, `30` (R317). -/
abbrev exec_jr_NC_e (e : Byte) (s : State) : Outcome := jumpIf .nc (relativeTarget s.pc e) 2 s
/-- `JR C,e`, `38` (R317). -/
abbrev exec_jr_C_e (e : Byte) (s : State) : Outcome := jumpIf .c (relativeTarget s.pc e) 2 s
/-- `RET NZ`, `C0` (R321). -/
abbrev exec_ret_NZ (s : State) : Outcome := returnIf .nz s
/-- `JP NZ,nn`, `C2` (R314). -/
abbrev exec_jp_NZ_nn (nn : Word) (s : State) : Outcome := jumpIf .nz nn 3 s
/-- `JP nn`, `C3` (R313). -/
abbrev exec_jp_nn (nn : Word) (s : State) : Outcome := jumpTo nn s
/-- `CALL NZ,nn`, `C4` (R319). -/
abbrev exec_call_NZ_nn (nn : Word) (s : State) : Outcome := callIf .nz nn s
/-- `RST 00H`, `C7` (R323). -/
abbrev exec_rst_00H (s : State) : Outcome := callTo (restartAddress 0) 1 s
/-- `RET Z`, `C8` (R321). -/
abbrev exec_ret_Z (s : State) : Outcome := returnIf .z s
/-- `RET`, `C9` (R320). -/
abbrev exec_ret (s : State) : Outcome := returnTo s
/-- `JP Z,nn`, `CA` (R314). -/
abbrev exec_jp_Z_nn (nn : Word) (s : State) : Outcome := jumpIf .z nn 3 s
/-- `CALL Z,nn`, `CC` (R319). -/
abbrev exec_call_Z_nn (nn : Word) (s : State) : Outcome := callIf .z nn s
/-- `CALL nn`, `CD` (R318). -/
abbrev exec_call_nn (nn : Word) (s : State) : Outcome := callTo nn 3 s
/-- `RST 08H`, `CF` (R323). -/
abbrev exec_rst_08H (s : State) : Outcome := callTo (restartAddress 1) 1 s
/-- `RET NC`, `D0` (R321). -/
abbrev exec_ret_NC (s : State) : Outcome := returnIf .nc s
/-- `JP NC,nn`, `D2` (R314). -/
abbrev exec_jp_NC_nn (nn : Word) (s : State) : Outcome := jumpIf .nc nn 3 s
/-- `CALL NC,nn`, `D4` (R319). -/
abbrev exec_call_NC_nn (nn : Word) (s : State) : Outcome := callIf .nc nn s
/-- `RST 10H`, `D7` (R323). -/
abbrev exec_rst_10H (s : State) : Outcome := callTo (restartAddress 2) 1 s
/-- `RET C`, `D8` (R321). -/
abbrev exec_ret_C (s : State) : Outcome := returnIf .c s
/-- `JP C,nn`, `DA` (R314). -/
abbrev exec_jp_C_nn (nn : Word) (s : State) : Outcome := jumpIf .c nn 3 s
/-- `CALL C,nn`, `DC` (R319). -/
abbrev exec_call_C_nn (nn : Word) (s : State) : Outcome := callIf .c nn s
/-- `RST 18H`, `DF` (R323). -/
abbrev exec_rst_18H (s : State) : Outcome := callTo (restartAddress 3) 1 s
/-- `RST 20H`, `E7` (R323). -/
abbrev exec_rst_20H (s : State) : Outcome := callTo (restartAddress 4) 1 s
/-- `JP (HL)`, `E9` (R315). -/
abbrev exec_jp_HL (s : State) : Outcome := jumpTo s.hl s
/-- `RST 28H`, `EF` (R323). -/
abbrev exec_rst_28H (s : State) : Outcome := callTo (restartAddress 5) 1 s
/-- `RST 30H`, `F7` (R323). -/
abbrev exec_rst_30H (s : State) : Outcome := callTo (restartAddress 6) 1 s
/-- `RST 38H`, `FF` (R323). -/
abbrev exec_rst_38H (s : State) : Outcome := callTo (restartAddress 7) 1 s

end Sys2Proof.Machine
end

