-- ==== Sys2Proof/Machine/Loads.lean ====
section
/-!
DEFINITION. Loads and stores (spec/42_loads_stores_stack.md R200 to R222). No flag is written.
-/

namespace Sys2Proof.Machine

/-- `LD BC,nn`, `01` (R220). -/
abbrev exec_ld_BC_nn (nn : Word) (s : State) : Outcome := loadReg16 .bc nn 3 s
/-- `LD (BC),A`, `02` (R208). -/
abbrev exec_ld_mBC_A (s : State) : Outcome := storeMem8 s.bc (s.reg8 .a) 1 s
/-- `LD B,n`, `06` (R202). -/
abbrev exec_ld_B_n (n : Byte) (s : State) : Outcome := loadReg8 .b n 2 s
/-- `LD (nn),SP`, `08` (R221). -/
abbrev exec_ld_mnn_SP (nn : Word) (s : State) : Outcome := (s.writeU16 nn s.sp).done 3
/-- `LD A,(BC)`, `0A` (R206). -/
abbrev exec_ld_A_mBC (s : State) : Outcome := loadMem8 .a s.bc 1 s
/-- `LD C,n`, `0E` (R202). -/
abbrev exec_ld_C_n (n : Byte) (s : State) : Outcome := loadReg8 .c n 2 s
/-- `LD DE,nn`, `11` (R220). -/
abbrev exec_ld_DE_nn (nn : Word) (s : State) : Outcome := loadReg16 .de nn 3 s
/-- `LD (DE),A`, `12` (R209). -/
abbrev exec_ld_mDE_A (s : State) : Outcome := storeMem8 s.de (s.reg8 .a) 1 s
/-- `LD D,n`, `16` (R202). -/
abbrev exec_ld_D_n (n : Byte) (s : State) : Outcome := loadReg8 .d n 2 s
/-- `LD A,(DE)`, `1A` (R207). -/
abbrev exec_ld_A_mDE (s : State) : Outcome := loadMem8 .a s.de 1 s
/-- `LD E,n`, `1E` (R202). -/
abbrev exec_ld_E_n (n : Byte) (s : State) : Outcome := loadReg8 .e n 2 s
/-- `LD HL,nn`, `21` (R220). -/
abbrev exec_ld_HL_nn (nn : Word) (s : State) : Outcome := loadReg16 .hl nn 3 s
/-- `LD (HL+),A`, `22` (R216). -/
abbrev exec_ld_mHLi_A (s : State) : Outcome := storeAStepHL 1 s
/-- `LD H,n`, `26` (R202). -/
abbrev exec_ld_H_n (n : Byte) (s : State) : Outcome := loadReg8 .h n 2 s
/-- `LD A,(HL+)`, `2A` (R217). -/
abbrev exec_ld_A_mHLi (s : State) : Outcome := loadAStepHL 1 s
/-- `LD L,n`, `2E` (R202). -/
abbrev exec_ld_L_n (n : Byte) (s : State) : Outcome := loadReg8 .l n 2 s
/-- `LD SP,nn`, `31` (R220). -/
abbrev exec_ld_SP_nn (nn : Word) (s : State) : Outcome := loadReg16 .sp nn 3 s
/-- `LD (HL-),A`, `32` (R218). -/
abbrev exec_ld_mHLd_A (s : State) : Outcome := storeAStepHL (-1) s
/-- `LD (HL),n`, `36` (R205). -/
abbrev exec_ld_mHL_n (n : Byte) (s : State) : Outcome := storeMem8 s.hl n 2 s
/-- `LD A,(HL-)`, `3A` (R219). -/
abbrev exec_ld_A_mHLd (s : State) : Outcome := loadAStepHL (-1) s
/-- `LD A,n`, `3E` (R202). -/
abbrev exec_ld_A_n (n : Byte) (s : State) : Outcome := loadReg8 .a n 2 s
/-- `LD B,B`, `40` (R201). -/
abbrev exec_ld_B_B (s : State) : Outcome := loadReg8 .b (s.reg8 .b) 1 s
/-- `LD B,C`, `41` (R201). -/
abbrev exec_ld_B_C (s : State) : Outcome := loadReg8 .b (s.reg8 .c) 1 s
/-- `LD B,D`, `42` (R201). -/
abbrev exec_ld_B_D (s : State) : Outcome := loadReg8 .b (s.reg8 .d) 1 s
/-- `LD B,E`, `43` (R201). -/
abbrev exec_ld_B_E (s : State) : Outcome := loadReg8 .b (s.reg8 .e) 1 s
/-- `LD B,H`, `44` (R201). -/
abbrev exec_ld_B_H (s : State) : Outcome := loadReg8 .b (s.reg8 .h) 1 s
/-- `LD B,L`, `45` (R201). -/
abbrev exec_ld_B_L (s : State) : Outcome := loadReg8 .b (s.reg8 .l) 1 s
/-- `LD B,(HL)`, `46` (R203). -/
abbrev exec_ld_B_mHL (s : State) : Outcome := loadMem8 .b s.hl 1 s
/-- `LD B,A`, `47` (R201). -/
abbrev exec_ld_B_A (s : State) : Outcome := loadReg8 .b (s.reg8 .a) 1 s
/-- `LD C,B`, `48` (R201). -/
abbrev exec_ld_C_B (s : State) : Outcome := loadReg8 .c (s.reg8 .b) 1 s
/-- `LD C,C`, `49` (R201). -/
abbrev exec_ld_C_C (s : State) : Outcome := loadReg8 .c (s.reg8 .c) 1 s
/-- `LD C,D`, `4A` (R201). -/
abbrev exec_ld_C_D (s : State) : Outcome := loadReg8 .c (s.reg8 .d) 1 s
/-- `LD C,E`, `4B` (R201). -/
abbrev exec_ld_C_E (s : State) : Outcome := loadReg8 .c (s.reg8 .e) 1 s
/-- `LD C,H`, `4C` (R201). -/
abbrev exec_ld_C_H (s : State) : Outcome := loadReg8 .c (s.reg8 .h) 1 s
/-- `LD C,L`, `4D` (R201). -/
abbrev exec_ld_C_L (s : State) : Outcome := loadReg8 .c (s.reg8 .l) 1 s
/-- `LD C,(HL)`, `4E` (R203). -/
abbrev exec_ld_C_mHL (s : State) : Outcome := loadMem8 .c s.hl 1 s
/-- `LD C,A`, `4F` (R201). -/
abbrev exec_ld_C_A (s : State) : Outcome := loadReg8 .c (s.reg8 .a) 1 s
/-- `LD D,B`, `50` (R201). -/
abbrev exec_ld_D_B (s : State) : Outcome := loadReg8 .d (s.reg8 .b) 1 s
/-- `LD D,C`, `51` (R201). -/
abbrev exec_ld_D_C (s : State) : Outcome := loadReg8 .d (s.reg8 .c) 1 s
/-- `LD D,D`, `52` (R201). -/
abbrev exec_ld_D_D (s : State) : Outcome := loadReg8 .d (s.reg8 .d) 1 s
/-- `LD D,E`, `53` (R201). -/
abbrev exec_ld_D_E (s : State) : Outcome := loadReg8 .d (s.reg8 .e) 1 s
/-- `LD D,H`, `54` (R201). -/
abbrev exec_ld_D_H (s : State) : Outcome := loadReg8 .d (s.reg8 .h) 1 s
/-- `LD D,L`, `55` (R201). -/
abbrev exec_ld_D_L (s : State) : Outcome := loadReg8 .d (s.reg8 .l) 1 s
/-- `LD D,(HL)`, `56` (R203). -/
abbrev exec_ld_D_mHL (s : State) : Outcome := loadMem8 .d s.hl 1 s
/-- `LD D,A`, `57` (R201). -/
abbrev exec_ld_D_A (s : State) : Outcome := loadReg8 .d (s.reg8 .a) 1 s
/-- `LD E,B`, `58` (R201). -/
abbrev exec_ld_E_B (s : State) : Outcome := loadReg8 .e (s.reg8 .b) 1 s
/-- `LD E,C`, `59` (R201). -/
abbrev exec_ld_E_C (s : State) : Outcome := loadReg8 .e (s.reg8 .c) 1 s
/-- `LD E,D`, `5A` (R201). -/
abbrev exec_ld_E_D (s : State) : Outcome := loadReg8 .e (s.reg8 .d) 1 s
/-- `LD E,E`, `5B` (R201). -/
abbrev exec_ld_E_E (s : State) : Outcome := loadReg8 .e (s.reg8 .e) 1 s
/-- `LD E,H`, `5C` (R201). -/
abbrev exec_ld_E_H (s : State) : Outcome := loadReg8 .e (s.reg8 .h) 1 s
/-- `LD E,L`, `5D` (R201). -/
abbrev exec_ld_E_L (s : State) : Outcome := loadReg8 .e (s.reg8 .l) 1 s
/-- `LD E,(HL)`, `5E` (R203). -/
abbrev exec_ld_E_mHL (s : State) : Outcome := loadMem8 .e s.hl 1 s
/-- `LD E,A`, `5F` (R201). -/
abbrev exec_ld_E_A (s : State) : Outcome := loadReg8 .e (s.reg8 .a) 1 s
/-- `LD H,B`, `60` (R201). -/
abbrev exec_ld_H_B (s : State) : Outcome := loadReg8 .h (s.reg8 .b) 1 s
/-- `LD H,C`, `61` (R201). -/
abbrev exec_ld_H_C (s : State) : Outcome := loadReg8 .h (s.reg8 .c) 1 s
/-- `LD H,D`, `62` (R201). -/
abbrev exec_ld_H_D (s : State) : Outcome := loadReg8 .h (s.reg8 .d) 1 s
/-- `LD H,E`, `63` (R201). -/
abbrev exec_ld_H_E (s : State) : Outcome := loadReg8 .h (s.reg8 .e) 1 s
/-- `LD H,H`, `64` (R201). -/
abbrev exec_ld_H_H (s : State) : Outcome := loadReg8 .h (s.reg8 .h) 1 s
/-- `LD H,L`, `65` (R201). -/
abbrev exec_ld_H_L (s : State) : Outcome := loadReg8 .h (s.reg8 .l) 1 s
/-- `LD H,(HL)`, `66` (R203). -/
abbrev exec_ld_H_mHL (s : State) : Outcome := loadMem8 .h s.hl 1 s
/-- `LD H,A`, `67` (R201). -/
abbrev exec_ld_H_A (s : State) : Outcome := loadReg8 .h (s.reg8 .a) 1 s
/-- `LD L,B`, `68` (R201). -/
abbrev exec_ld_L_B (s : State) : Outcome := loadReg8 .l (s.reg8 .b) 1 s
/-- `LD L,C`, `69` (R201). -/
abbrev exec_ld_L_C (s : State) : Outcome := loadReg8 .l (s.reg8 .c) 1 s
/-- `LD L,D`, `6A` (R201). -/
abbrev exec_ld_L_D (s : State) : Outcome := loadReg8 .l (s.reg8 .d) 1 s
/-- `LD L,E`, `6B` (R201). -/
abbrev exec_ld_L_E (s : State) : Outcome := loadReg8 .l (s.reg8 .e) 1 s
/-- `LD L,H`, `6C` (R201). -/
abbrev exec_ld_L_H (s : State) : Outcome := loadReg8 .l (s.reg8 .h) 1 s
/-- `LD L,L`, `6D` (R201). -/
abbrev exec_ld_L_L (s : State) : Outcome := loadReg8 .l (s.reg8 .l) 1 s
/-- `LD L,(HL)`, `6E` (R203). -/
abbrev exec_ld_L_mHL (s : State) : Outcome := loadMem8 .l s.hl 1 s
/-- `LD L,A`, `6F` (R201). -/
abbrev exec_ld_L_A (s : State) : Outcome := loadReg8 .l (s.reg8 .a) 1 s
/-- `LD (HL),B`, `70` (R204). -/
abbrev exec_ld_mHL_B (s : State) : Outcome := storeMem8 s.hl (s.reg8 .b) 1 s
/-- `LD (HL),C`, `71` (R204). -/
abbrev exec_ld_mHL_C (s : State) : Outcome := storeMem8 s.hl (s.reg8 .c) 1 s
/-- `LD (HL),D`, `72` (R204). -/
abbrev exec_ld_mHL_D (s : State) : Outcome := storeMem8 s.hl (s.reg8 .d) 1 s
/-- `LD (HL),E`, `73` (R204). -/
abbrev exec_ld_mHL_E (s : State) : Outcome := storeMem8 s.hl (s.reg8 .e) 1 s
/-- `LD (HL),H`, `74` (R204). -/
abbrev exec_ld_mHL_H (s : State) : Outcome := storeMem8 s.hl (s.reg8 .h) 1 s
/-- `LD (HL),L`, `75` (R204). -/
abbrev exec_ld_mHL_L (s : State) : Outcome := storeMem8 s.hl (s.reg8 .l) 1 s
/-- `LD (HL),A`, `77` (R204). -/
abbrev exec_ld_mHL_A (s : State) : Outcome := storeMem8 s.hl (s.reg8 .a) 1 s
/-- `LD A,B`, `78` (R201). -/
abbrev exec_ld_A_B (s : State) : Outcome := loadReg8 .a (s.reg8 .b) 1 s
/-- `LD A,C`, `79` (R201). -/
abbrev exec_ld_A_C (s : State) : Outcome := loadReg8 .a (s.reg8 .c) 1 s
/-- `LD A,D`, `7A` (R201). -/
abbrev exec_ld_A_D (s : State) : Outcome := loadReg8 .a (s.reg8 .d) 1 s
/-- `LD A,E`, `7B` (R201). -/
abbrev exec_ld_A_E (s : State) : Outcome := loadReg8 .a (s.reg8 .e) 1 s
/-- `LD A,H`, `7C` (R201). -/
abbrev exec_ld_A_H (s : State) : Outcome := loadReg8 .a (s.reg8 .h) 1 s
/-- `LD A,L`, `7D` (R201). -/
abbrev exec_ld_A_L (s : State) : Outcome := loadReg8 .a (s.reg8 .l) 1 s
/-- `LD A,(HL)`, `7E` (R203). -/
abbrev exec_ld_A_mHL (s : State) : Outcome := loadMem8 .a s.hl 1 s
/-- `LD A,A`, `7F` (R201). -/
abbrev exec_ld_A_A (s : State) : Outcome := loadReg8 .a (s.reg8 .a) 1 s
/-- `LDH (n),A`, `E0` (R213). -/
abbrev exec_ldh_mn_A (n : Byte) (s : State) : Outcome := storeMem8 (highPage n) (s.reg8 .a) 2 s
/-- `LD (C),A`, `E2` (R215). -/
abbrev exec_ld_mC_A (s : State) : Outcome := storeMem8 (highPage (s.reg8 .c)) (s.reg8 .a) 1 s
/-- `LD (nn),A`, `EA` (R211). -/
abbrev exec_ld_mnn_A (nn : Word) (s : State) : Outcome := storeMem8 nn (s.reg8 .a) 3 s
/-- `LDH A,(n)`, `F0` (R212). -/
abbrev exec_ldh_A_mn (n : Byte) (s : State) : Outcome := loadMem8 .a (highPage n) 2 s
/-- `LD A,(C)`, `F2` (R214). -/
abbrev exec_ld_A_mC (s : State) : Outcome := loadMem8 .a (highPage (s.reg8 .c)) 1 s
/-- `LD SP,HL`, `F9` (R222). -/
abbrev exec_ld_SP_HL (s : State) : Outcome := loadReg16 .sp s.hl 1 s
/-- `LD A,(nn)`, `FA` (R210). -/
abbrev exec_ld_A_mnn (nn : Word) (s : State) : Outcome := loadMem8 .a nn 3 s

end Sys2Proof.Machine
end

