-- ==== Sys2Proof/Machine/Prefix.lean ====
section
/-!
DEFINITION. The CB prefix and SWAP (spec/46_cb_prefix_swap.md R340 to R343).
-/

namespace Sys2Proof.Machine

/-- The operand of a sub-opcode's field `z` (spec/30_encoding.md R104, R112). -/
def targetOfField (z : Nat) : Target :=
  match z with
  | 0 => .reg .b
  | 1 => .reg .c
  | 2 => .reg .d
  | 3 => .reg .e
  | 4 => .reg .h
  | 5 => .reg .l
  | 6 => .mHL
  | _ => .reg .a

/-- The operation of the first group's field `y` (R112). -/
def shiftOfField (y : Nat) : ShiftOp :=
  match y with
  | 0 => .rlc
  | 1 => .rrc
  | 2 => .rl
  | 3 => .rr
  | 4 => .sla
  | 5 => .sra
  | 6 => .swap
  | _ => .srl

/-- The handler of the prefix byte (R340, R343), by the fields of the sub-opcode
(spec/30_encoding.md R112): `SWAP` completes, everything else needs EXT_LR35902. -/
def cbHandler (sub : Byte) (s : State) : Outcome :=
  let x := sub.toNat / 64
  let y := sub.toNat / 8 % 8
  let t := targetOfField (sub.toNat % 8)
  let b := Fin.ofNat 8 y
  match x with
  | 0 => if y = 6 then shiftTarget .swap t s else withExt s (shiftTarget (shiftOfField y) t)
  | 1 => withExt s (testBit b t)
  | 2 => withExt s (resetBit b t)
  | _ => withExt s (setBit b t)

/-- `PREFIX CB`, `CB` (R340). -/
abbrev exec_prefixCb (sub : Byte) (s : State) : Outcome := cbHandler sub s
/-- `SWAP B`, `CB 30` (R341). -/
abbrev exec_swap_B (s : State) : Outcome := shiftTarget .swap (.reg .b) s
/-- `SWAP C`, `CB 31` (R341). -/
abbrev exec_swap_C (s : State) : Outcome := shiftTarget .swap (.reg .c) s
/-- `SWAP D`, `CB 32` (R341). -/
abbrev exec_swap_D (s : State) : Outcome := shiftTarget .swap (.reg .d) s
/-- `SWAP E`, `CB 33` (R341). -/
abbrev exec_swap_E (s : State) : Outcome := shiftTarget .swap (.reg .e) s
/-- `SWAP H`, `CB 34` (R341). -/
abbrev exec_swap_H (s : State) : Outcome := shiftTarget .swap (.reg .h) s
/-- `SWAP L`, `CB 35` (R341). -/
abbrev exec_swap_L (s : State) : Outcome := shiftTarget .swap (.reg .l) s
/-- `SWAP (HL)`, `CB 36` (R342). -/
abbrev exec_swap_mHL (s : State) : Outcome := shiftTarget .swap .mHL s
/-- `SWAP A`, `CB 37` (R341). -/
abbrev exec_swap_A (s : State) : Outcome := shiftTarget .swap (.reg .a) s

end Sys2Proof.Machine
end

