-- ==== Sys2Proof/Machine/Stack.lean ====
section
/-!
DEFINITION. PUSH and POP (spec/42_loads_stores_stack.md R223 to R226).
-/

namespace Sys2Proof.Machine

/-- `POP BC`, `C1` (R225). -/
abbrev exec_pop_BC (s : State) : Outcome := popPair .bc s
/-- `PUSH BC`, `C5` (R224). -/
abbrev exec_push_BC (s : State) : Outcome := pushPair .bc s
/-- `POP DE`, `D1` (R225). -/
abbrev exec_pop_DE (s : State) : Outcome := popPair .de s
/-- `PUSH DE`, `D5` (R224). -/
abbrev exec_push_DE (s : State) : Outcome := pushPair .de s
/-- `POP HL`, `E1` (R225). -/
abbrev exec_pop_HL (s : State) : Outcome := popPair .hl s
/-- `PUSH HL`, `E5` (R224). -/
abbrev exec_push_HL (s : State) : Outcome := pushPair .hl s
/-- `POP AF`, `F1` (R226). -/
abbrev exec_pop_AF (s : State) : Outcome := popPair .af s
/-- `PUSH AF`, `F5` (R224). -/
abbrev exec_push_AF (s : State) : Outcome := pushPair .af s

end Sys2Proof.Machine
end

