-- ==== Sys2Proof/Machine/Unimplemented.lean ====
section
/-!
DEFINITION. Tier U first bytes and tier X (spec/47_unimplemented_and_ext.md sections 1 to 5).

A tier U instruction has its effect where EXT_LR35902 is true and raises UnimplementedOperation where
it is false (R350); HALT, STOP, DI, EI, RETI (R362 to R366) and tier X (R351) always raise.
-/

namespace Sys2Proof.Machine

/-- `DAA` (R356). -/
def decimalAdjust (s : State) : Outcome :=
  let x := daa8 (s.reg8 .f) (s.reg8 .a)
  ((s.setReg8 .a x.result).setReg8 .f x.flags).done 1

/-- `CPL` (R357): N and H set, Z and C kept. -/
def complementA (s : State) : Outcome :=
  let f := s.reg8 .f
  ((s.setReg8 .a (s.reg8 .a ^^^ 0xFF)).setReg8 .f (flagByte (flagZ f) true true (flagC f))).done 1

/-- `SCF` (R358): C set, Z kept. -/
def setCarry (s : State) : Outcome :=
  (s.setReg8 .f (flagByte (flagZ (s.reg8 .f)) false false true)).done 1

/-- `CCF` (R359): C inverted, Z kept. -/
def complementCarry (s : State) : Outcome :=
  let f := s.reg8 .f
  (s.setReg8 .f (flagByte (flagZ f) false false (!flagC f))).done 1

/-- `RLCA`, `07` (R352). -/
abbrev exec_rlca (s : State) : Outcome := withExt s (rotateA .rlc)
/-- `RRCA`, `0F` (R353). -/
abbrev exec_rrca (s : State) : Outcome := withExt s (rotateA .rrc)
/-- `STOP`, `10` (R363). -/
abbrev exec_stop (s : State) : Outcome := raiseUnimplemented s
/-- `RLA`, `17` (R354). -/
abbrev exec_rla (s : State) : Outcome := withExt s (rotateA .rl)
/-- `RRA`, `1F` (R355). -/
abbrev exec_rra (s : State) : Outcome := withExt s (rotateA .rr)
/-- `DAA`, `27` (R356). -/
abbrev exec_daa (s : State) : Outcome := withExt s decimalAdjust
/-- `CPL`, `2F` (R357). -/
abbrev exec_cpl (s : State) : Outcome := withExt s complementA
/-- `SCF`, `37` (R358). -/
abbrev exec_scf (s : State) : Outcome := withExt s setCarry
/-- `CCF`, `3F` (R359). -/
abbrev exec_ccf (s : State) : Outcome := withExt s complementCarry
/-- `HALT`, `76` (R362). -/
abbrev exec_halt (s : State) : Outcome := raiseUnimplemented s
/-- `no instruction`, `D3` (R351). -/
abbrev exec_noInstruction_D3 (s : State) : Outcome := raiseUnimplemented s
/-- `RETI`, `D9` (R366). -/
abbrev exec_reti (s : State) : Outcome := raiseUnimplemented s
/-- `no instruction`, `DB` (R351). -/
abbrev exec_noInstruction_DB (s : State) : Outcome := raiseUnimplemented s
/-- `no instruction`, `DD` (R351). -/
abbrev exec_noInstruction_DD (s : State) : Outcome := raiseUnimplemented s
/-- `no instruction`, `E3` (R351). -/
abbrev exec_noInstruction_E3 (s : State) : Outcome := raiseUnimplemented s
/-- `no instruction`, `E4` (R351). -/
abbrev exec_noInstruction_E4 (s : State) : Outcome := raiseUnimplemented s
/-- `ADD SP,e`, `E8` (R360). -/
abbrev exec_add_SP_e (e : Byte) (s : State) : Outcome := withExt s (addSPTo .sp e)
/-- `no instruction`, `EB` (R351). -/
abbrev exec_noInstruction_EB (s : State) : Outcome := raiseUnimplemented s
/-- `no instruction`, `EC` (R351). -/
abbrev exec_noInstruction_EC (s : State) : Outcome := raiseUnimplemented s
/-- `no instruction`, `ED` (R351). -/
abbrev exec_noInstruction_ED (s : State) : Outcome := raiseUnimplemented s
/-- `DI`, `F3` (R364). -/
abbrev exec_di (s : State) : Outcome := raiseUnimplemented s
/-- `no instruction`, `F4` (R351). -/
abbrev exec_noInstruction_F4 (s : State) : Outcome := raiseUnimplemented s
/-- `LD HL,SP+e`, `F8` (R361). -/
abbrev exec_ld_HL_SPe (e : Byte) (s : State) : Outcome := withExt s (addSPTo .hl e)
/-- `EI`, `FB` (R365). -/
abbrev exec_ei (s : State) : Outcome := raiseUnimplemented s
/-- `no instruction`, `FC` (R351). -/
abbrev exec_noInstruction_FC (s : State) : Outcome := raiseUnimplemented s
/-- `no instruction`, `FD` (R351). -/
abbrev exec_noInstruction_FD (s : State) : Outcome := raiseUnimplemented s

end Sys2Proof.Machine
end

