-- ==== Sys2Proof/Machine/Fetch.lean ====
section
/-!
DEFINITION. Fetching: what the step does around a handler (spec/41_step_and_dispatch.md R171, R172, R177).
-/

namespace Sys2Proof.Machine

/-- An opcode may be fetched from this address (spec/41_step_and_dispatch.md R171). -/
def fetchable (pc : Word) : Bool := decide (pc.toNat < Config.programRegionEnd)

/-- The opcode byte at pc (R172). -/
def State.opcodeByte (s : State) : Byte := s.readU8 s.pc

/-- The instruction at pc: the opcode byte, and the operand bytes at `pc + 1` and `pc + 2`, which the
guard does not concern (R177; spec/20_memory.md R78). -/
def State.fetchInstr (s : State) : Instr :=
  decodeAt s.opcodeByte (s.readU8 (s.pc + 1)) (s.readU8 (s.pc + 2))

/-- The bytes the decoder is given. -/
def State.fetchBytes (s : State) : List Byte :=
  [s.opcodeByte, s.readU8 (s.pc + 1), s.readU8 (s.pc + 2)]

/-- The state a handler starts in: CurrentOpcode installed, the step state `dispatching`, pc still at
the opcode byte (R172, R177, R180). -/
def State.beginStep (s : State) : State :=
  { s with currentOpcode := s.opcodeByte, stepState := .dispatching }

/-- The end of a step: the step state is `idle` again and nothing else is added (R174, R180). -/
def State.endStep (s : State) : State := { s with stepState := .idle }

/-- The end of a step whose handler answered. -/
def endOutcome : Outcome → Outcome
  | .next t => .next t.endStep
  | .fault k => .fault k
  | .refused r => .refused r

/-- Where `withFetchWord` puts an instruction: pc, or the entry point where no opcode may be fetched
from pc (log 14). -/
def fetchPlace (pc : Word) : Word := if fetchable pc then pc else Config.resetPC

/-- Three bytes stored at an address and the two after it. -/
def State.store3 (s : State) (a : Word) (bs : Byte × Byte × Byte) : State :=
  ((s.writeU8 a bs.1).writeU8 (a + 1) bs.2.1).writeU8 (a + 2) bs.2.2

end Sys2Proof.Machine
end

