-- ==== Sys2Proof/Machine/Step.lean ====
section
/-!
DEFINITION. One step of the machine (spec/41_step_and_dispatch.md R174).
-/

namespace Sys2Proof.Machine

/-- `Step()`: only in run state `ready` (R182) and step state `idle` (R180); the guard comes before the
fetch (R171); then the instruction at pc runs, and the step adds nothing after it (R174). -/
def step (s : State) : Host.Outcome State Fault Refusal :=
  if s.run ≠ .ready then .refused .notReady
  else if s.stepState ≠ .idle then .refused .stepInProgress
  else if fetchable s.pc then endOutcome (exec s.fetchInstr s.beginStep)
  else .next (s.takeFault .outOfRangePC)

/-- The state whose next step runs the instruction with the bits `w`: its bytes stand where the step
fetches, and the machine may step (log 14). -/
def State.withFetchWord (s : State) (nbits w : Nat) : State :=
  { s.store3 (fetchPlace s.pc) (tableBytes nbits w) with
    pc := fetchPlace s.pc, run := .ready, fault := none, stepState := .idle }

end Sys2Proof.Machine
end

