-- ==== Sys2Proof/Machine/Table.lean ====
section
/-!
DEFINITION. The step over any dispatch table (spec/00_scope.md R7; spec/41_step_and_dispatch.md R170 to
R180): the table `DT` is a parameter of the hardware, and `step` is this step over DT_REF (log 1).
-/

namespace Sys2Proof.Machine

/-- A handler completes or raises UnimplementedOperation; it has no third outcome (R179). -/
inductive HandlerOutcome where
  | completes (s : State)
  | raises
  deriving DecidableEq, Repr

/-- The behaviour one opcode byte selects, from the state it is entered in (R175, R177). What a step
hands it beside the Register File and the Address Space is the same in every step: run state `ready`,
step state `dispatching`, and the parameters. -/
abbrev Handler := State → HandlerOutcome

/-- A total map from opcode byte to handler (R173). -/
abbrev DispatchTable := Byte → Handler

/-- `t` is `s` after writes through the accessors, any number of them: of an 8-bit register, of a 16-bit
register, of a byte of memory. The other writing accessors are made of these (AdvancePC is a write of
PC, WriteU16 two writes of a byte, AddU8 and SubU8 one), and so are the Flag Engine's writes of F. The
write port masks F (spec/10_state.md R26), so no writer can break its zero bits
(spec/92_eei_decisions.md D32). -/
inductive Writes (s : State) : State → Prop where
  | refl : Writes s s
  | setReg8 {t : State} (h : Writes s t) (r : Reg8) (v : Byte) : Writes s (t.setReg8 r v)
  | setReg16 {t : State} (h : Writes s t) (p : Reg16) (w : Word) : Writes s (t.setReg16 p w)
  | writeU8 {t : State} (h : Writes s t) (a : Word) (v : Byte) : Writes s (t.writeU8 a v)

/-- The handler contract (R175), for every table: a handler that completes has reached the registers
and the memory through the accessors only. So the latch, the run state, the fault kind, the step state
and the parameters stay, the low four bits of F stay zero and memory stays in its form
(`Writes.keeps`). -/
def ObeysContract (h : Handler) : Prop := ∀ s t, h s = .completes t → Writes s t

/-- `Step()` over a table (R174). A raise discards the handler's writes; CurrentOpcode keeps the
opcode (spec/60_exceptions.md R403). -/
def stepWith (dt : DispatchTable) (s : State) : Outcome :=
  if s.run ≠ .ready then .refused .notReady
  else if s.stepState ≠ .idle then .refused .stepInProgress
  else if fetchable s.pc then
    match dt s.opcodeByte s.beginStep with
    | .completes t => .next t.endStep
    | .raises => .next (s.beginStep.endStep.takeFault .unimplementedOperation)
  else .next (s.takeFault .outOfRangePC)

/-- What a handler's answer is for the table: a state in run state `faulted` is a raise. -/
def handlerOutcome : Outcome → HandlerOutcome
  | .next t => if t.run = .faulted then .raises else .completes t
  | .fault _ => .raises
  | .refused _ => .raises

/-- The reference table DT_REF (spec/30_encoding.md R100). -/
def dtRef : DispatchTable := fun op s =>
  handlerOutcome (exec (decodeAt op (s.readU8 (s.pc + 1)) (s.readU8 (s.pc + 2))) s)

/-- The table that holds only what the source document gives: `0x3C`, and the fault everywhere else
(spec/93_implementation_defined.md section 2). -/
def dtSource : DispatchTable := fun op s =>
  if op = 0x3C then handlerOutcome (exec_inc_A s) else .raises

end Sys2Proof.Machine
end

