-- ==== Sys2Proof/Machine/HostPort.lean ====
section
/-!
DEFINITION. The host's side (spec/70_reset_and_hazards.md R430 to R447): power-on, the ROM load which is
also the reset, the step, and reads and writes between steps, as transactions on an instance.
-/

namespace Sys2Proof.Machine

/-- Power-on (R430): no ROM accepted, memory at MEM_INIT, registers unspecified but for the low bits
of F (log 4). -/
def State.powerOn : State where
  af := maskAF (Config.powerOnReg .af)
  bc := Config.powerOnReg .bc
  de := Config.powerOnReg .de
  hl := Config.powerOnReg .hl
  sp := Config.powerOnReg .sp
  pc := Config.powerOnReg .pc
  currentOpcode := Config.powerOnOpcode
  run := .unloaded
  fault := none
  stepState := .idle
  mem := []
  params := Config.params

/-- An image is accepted up to 32768 bytes (R431). -/
def romAccepted (image : List Byte) : Bool := decide (image.length ≤ Config.maxCartridgeSize)

/-- LoadROM: an accepted image is copied from address 0 and the registers take the post-boot values
(R431); a refused one writes no register and no byte, and the machine is `unloaded` (R432). -/
def State.loadRom (s : State) (image : List Byte) : State :=
  if romAccepted image then
    { State.reset with mem := s.mem.load 0 image, params := s.params }
  else { s with run := .unloaded, fault := none }

/-- The four flags, for the host's reads (R443). -/
inductive Flag where
  | z | n | h | c
  deriving DecidableEq, Repr

/-- A flag of the state. -/
def State.flag (s : State) : Flag → Bool
  | .z => flagZ (s.reg8 .f)
  | .n => flagN (s.reg8 .f)
  | .h => flagH (s.reg8 .f)
  | .c => flagC (s.reg8 .f)

/-- The host's transactions (R440 to R447). The host cannot write CurrentOpcode, the run state or the
fault kind (R444), so no transaction does. -/
inductive Transaction where
  | createMachine
  | loadROM (image : List Byte)
  | step
  | readReg8 (r : Reg8)
  | readReg16 (p : Reg16)
  | readFlag (f : Flag)
  | readCurrentOpcode
  | readRunState
  | readFaultKind
  | writeReg8 (r : Reg8) (v : Byte)
  | writeReg16 (p : Reg16) (w : Word)
  | readU8 (a : Word)
  | readU16 (a : Word)
  | writeU8 (a : Word) (v : Byte)
  | writeU16 (a : Word) (v : Word)
  | getIE
  | setIE (v : Byte)
  | getIF
  | setIF (v : Byte)
  | destroyMachine
  deriving DecidableEq, Repr

/-- What a transaction answers the host. -/
inductive Reply where
  | ok
  | refused
  | completed
  | faulted (k : Fault)
  | byte (v : Byte)
  | word (v : Word)
  | flag (v : Bool)
  | runState (r : RunState)
  | faultKind (k : Option Fault)
  deriving DecidableEq, Repr

/-- The outcome of a step as the host sees it (R442; spec/60_exceptions.md R405). -/
def stepReply (s : State) : Outcome → State × Reply
  | .next t =>
    match t.fault with
    | none => (t, .completed)
    | some k => (t, .faulted k)
  | .fault k => (s, .faulted k)
  | .refused _ => (s, .refused)

/-- A transaction on an instance that is between steps. The host writes every register and every byte
through the core's own accessors (spec/00_scope.md R11; spec/10_state.md R24), in every run state (R444
names `ready` and `faulted`; `unloaded`: log 15). -/
def State.perform (s : State) : Transaction → Option State × Reply
  | .createMachine => (some s, .refused)
  | .loadROM image => (some (s.loadRom image), if romAccepted image then .ok else .refused)
  | .step => (some (stepReply s (Sys2Proof.Machine.step s)).1, (stepReply s (Sys2Proof.Machine.step s)).2)
  | .readReg8 r => (some s, .byte (s.reg8 r))
  | .readReg16 p => (some s, .word (s.reg16 p))
  | .readFlag f => (some s, .flag (s.flag f))
  | .readCurrentOpcode => (some s, .byte s.currentOpcode)
  | .readRunState => (some s, .runState s.run)
  | .readFaultKind => (some s, .faultKind s.fault)
  | .writeReg8 r v => (some (s.setReg8 r v), .ok)
  | .writeReg16 p w => (some (s.setReg16 p w), .ok)
  | .readU8 a => (some s, .byte (s.readU8 a))
  | .readU16 a => (some s, .word (s.readU16 a))
  | .writeU8 a v => (some (s.writeU8 a v), .ok)
  | .writeU16 a v => (some (s.writeU16 a v), .ok)
  | .getIE => (some s, .byte s.getIE)
  | .setIE v => (some (s.setIE v), .ok)
  | .getIF => (some s, .byte s.getIF)
  | .setIF v => (some (s.setIF v), .ok)
  | .destroyMachine => (none, .ok)

/-- A transaction of the host. Without an instance only CreateMachine does anything; the host acts
only between steps (R446). -/
def perform (m : Option State) (t : Transaction) : Option State × Reply :=
  match m, t with
  | none, .createMachine => (some State.powerOn, .ok)
  | none, _ => (none, .refused)
  | some s, t => if s.stepState = .idle then s.perform t else (some s, .refused)

end Sys2Proof.Machine
end

