-- ==== Sys2Proof/Safety.lean ====
section
/-!
DEFINITION. What a safe run is, the invariant of the machine's states, and what an instruction leaves
alone, in the terms the statements use.
-/

namespace Sys2Proof.Machine

/-- The first `n` steps from `s` all complete and raise no fault: a run that faults has no valid result
(spec/60_exceptions.md R405). -/
def SafeFor (n : Nat) (s : State) : Prop :=
  ∀ k ≤ n, ∃ t, Host.Core.run Sys2Proof.core k s = .next t ∧ t.run = .ready

/-- The machine is between steps and its state is one the spec allows: memory is in its canonical form,
bits 3 to 0 of F are 0 (spec/10_state.md R27), and there is a fault kind exactly in run state
`faulted` (R33). -/
abbrev State.Inv (s : State) : Prop :=
  s.mem.wf ∧ s.reg8 .f &&& 0x0F = 0 ∧ (s.fault = none ↔ s.run ≠ .faulted) ∧ s.stepState = .idle

/-! ## What an instruction leaves alone -/

/-- Every 8-bit register but the named ones keeps its value. F is one of the eight. -/
abbrev State.KeepsRegsBut (s t : State) (written : List Reg8) : Prop :=
  ∀ r, r ∉ written → t.reg8 r = s.reg8 r

/-- The 8-bit registers that are halves of a 16-bit register (spec/10_state.md R22, R23). -/
def halves : Reg16 → List Reg8
  | .af => [.a, .f]
  | .bc => [.b, .c]
  | .de => [.d, .e]
  | .hl => [.h, .l]
  | .sp => []
  | .pc => []

/-- The register a CB operand is, if it is one. -/
def targetRegs : Target → List Reg8
  | .reg r => [r.reg]
  | .mHL => []

/-- The address a CB operand is at, if it is in memory. -/
def State.targetAddrs (s : State) : Target → List Word
  | .reg _ => []
  | .mHL => [s.hl]

/-- Every byte of memory keeps its value. -/
abbrev State.KeepsMemory (s t : State) : Prop := ∀ a, t.readU8 a = s.readU8 a

/-- Every byte of memory but those at the named addresses keeps its value. -/
abbrev State.KeepsMemoryBut (s t : State) (stored : List Word) : Prop :=
  ∀ a, a ∉ stored → t.readU8 a = s.readU8 a

/-- The special registers keep their values: CurrentOpcode, the run state, the fault kind, the step
state, and the parameters. A handler that completes leaves them alone
(spec/41_step_and_dispatch.md R175). -/
structure State.KeepsControl (s t : State) : Prop where
  currentOpcode : t.currentOpcode = s.currentOpcode
  run : t.run = s.run
  fault : t.fault = s.fault
  stepState : t.stepState = s.stepState
  params : t.params = s.params

/-- The effect of an instruction whose handler raises UnimplementedOperation: the run state and the
fault kind change and nothing else does (spec/60_exceptions.md R403). -/
structure State.Raised (s t : State) : Prop where
  run : t.run = .faulted
  fault : t.fault = some .unimplementedOperation
  regs : s.KeepsRegsBut t []
  sp : t.sp = s.sp
  pc : t.pc = s.pc
  memory : s.KeepsMemory t
  currentOpcode : t.currentOpcode = s.currentOpcode
  stepState : t.stepState = s.stepState
  params : t.params = s.params

end Sys2Proof.Machine
end

