-- ==== Sys2Proof/Certificates/Slice0/Obligations.lean ====
section
/-!
DEFINITION. The statements for the provers.

Each says which rule or section of spec/ it formalises. An instruction's statement is about its form on
every state: that exec answers a next state, what that state holds, and what it leaves alone.
-/

open Sys2Proof Sys2Proof.Machine

/-! ## Terms the statements use -/

/-- The operand of `ALU A,y` (spec/43_arith8.md R260). -/
inductive Sys2Proof.AluOperand where
  | reg (r : RField)
  | mHL
  | imm (n : Byte)
  deriving DecidableEq, Repr

/-- `ALU A,y` as an instruction. -/
def Sys2Proof.AluOperand.instr (op : AluOp) : AluOperand → Instr
  | .reg r => .aluR op r
  | .mHL => .aluMem op
  | .imm n => .aluN op n

/-- The operand's value. -/
def Sys2Proof.AluOperand.value (s : State) : AluOperand → Byte
  | .reg r => s.reg8 r.reg
  | .mHL => s.readU8 s.hl
  | .imm n => n

/-- The instruction's length. -/
def Sys2Proof.AluOperand.length : AluOperand → Word
  | .reg _ => 1
  | .mHL => 1
  | .imm _ => 2

/-- A packed decimal number of two digits. -/
def Sys2Proof.packedDecimal (n : Nat) : Byte := BitVec.ofNat 8 (16 * (n / 10) + n % 10)

/-! ## Encoding -/

/-- Every well-formed instruction, with every operand value, is what its own bytes decode to, whatever
follows them (spec/30_encoding.md sections 2 to 4, 6). -/
def Obligations.DecodeOfEncode : Prop :=
  ∀ (i : Instr) (rest : List Byte), i.WellFormed = true → decode (encode i ++ rest) = .ok (i, rest)

/-- Whatever decodes is well-formed and its bytes are the instruction's encoding, so no two byte
sequences of one length mean the same instruction (spec/30_encoding.md sections 2 to 4). -/
def Obligations.EncodeOfDecode : Prop :=
  ∀ (bs : List Byte) (i : Instr) (rest : List Byte), decode bs = .ok (i, rest) →
    i.WellFormed = true ∧ bs = encode i ++ rest

/-- Every opcode byte decodes as soon as its operand bytes are there, and the length is 3 for the
seventeen `OP_N16` bytes, 2 for the `OP_N8`, `OP_E8` and `CB_OP` bytes and 1 for the others
(spec/30_encoding.md section 2; spec/41_step_and_dispatch.md section 1). -/
def Obligations.DecodeTotalByLength : Prop :=
  (∀ op : Byte, lengthOf op =
    if op ∈ ([0x01, 0x08, 0x11, 0x21, 0x31, 0xC2, 0xC3, 0xC4, 0xCA, 0xCC, 0xCD, 0xD2, 0xD4, 0xDA,
      0xDC, 0xEA, 0xFA] : List Byte) then 3
    else if op ∈ ([0x06, 0x0E, 0x16, 0x1E, 0x26, 0x2E, 0x36, 0x3E, 0x18, 0x20, 0x28, 0x30, 0x38,
      0xC6, 0xCE, 0xD6, 0xDE, 0xE6, 0xEE, 0xF6, 0xFE, 0xCB, 0xE0, 0xF0, 0xE8, 0xF8] : List Byte)
      then 2
    else 1) ∧
  ∀ (op : Byte) (rest : List Byte),
    (lengthOf op ≤ rest.length + 1 ↔ ∃ i tail, decode (op :: rest) = .ok (i, tail)) ∧
    ∀ i tail, decode (op :: rest) = .ok (i, tail) → rest.length + 1 = lengthOf op + tail.length

/-- Where the operand fields stand in the opcode byte, the values of the fields and the base bytes
(spec/30_encoding.md sections 2 to 4). Its last clause gives `SET 1,E` the sub-opcode `0xCB`, which is
the model's reading where two rules of the spec disagree (log 16). -/
def Obligations.OpcodeFields : Prop :=
  (∀ dst r : RField, encode (.ldRR dst r) = [BitVec.ofNat 8 (0x40 + 8 * dst.code + r.code)]) ∧
  (∀ (dst : RField) (n : Byte), encode (.ldRN dst n) = [BitVec.ofNat 8 (0x06 + 8 * dst.code), n]) ∧
  (∀ dst : RField, encode (.ldRMem dst) = [BitVec.ofNat 8 (0x46 + 8 * dst.code)]) ∧
  (∀ r : RField, encode (.ldMemR r) = [BitVec.ofNat 8 (0x70 + r.code)]) ∧
  (∀ (op : AluOp) (r : RField), encode (.aluR op r) = [BitVec.ofNat 8 (0x80 + 8 * op.code + r.code)]) ∧
  (∀ op : AluOp, encode (.aluMem op) = [BitVec.ofNat 8 (0x86 + 8 * op.code)]) ∧
  (∀ (op : AluOp) (n : Byte), encode (.aluN op n) = [BitVec.ofNat 8 (0xC6 + 8 * op.code), n]) ∧
  (∀ r : RField, encode (.incR r) = [BitVec.ofNat 8 (0x04 + 8 * r.code)] ∧
    encode (.decR r) = [BitVec.ofNat 8 (0x05 + 8 * r.code)]) ∧
  (∀ p : RRField, encode (.addHL p) = [BitVec.ofNat 8 (0x09 + 16 * p.code)] ∧
    encode (.incPair p) = [BitVec.ofNat 8 (0x03 + 16 * p.code)] ∧
    encode (.decPair p) = [BitVec.ofNat 8 (0x0B + 16 * p.code)]) ∧
  (∀ (p : RRField) (nn : Word),
    encode (.ldPairNN p nn) = [BitVec.ofNat 8 (0x01 + 16 * p.code), loByte nn, hiByte nn]) ∧
  (∀ q : QQField, encode (.push q) = [BitVec.ofNat 8 (0xC5 + 16 * q.code)] ∧
    encode (.pop q) = [BitVec.ofNat 8 (0xC1 + 16 * q.code)]) ∧
  (∀ (cc : Cond) (nn : Word) (e : Byte),
    encode (.jpCC cc nn) = [BitVec.ofNat 8 (0xC2 + 8 * cc.code), loByte nn, hiByte nn] ∧
    encode (.callCC cc nn) = [BitVec.ofNat 8 (0xC4 + 8 * cc.code), loByte nn, hiByte nn] ∧
    encode (.jrCC cc e) = [BitVec.ofNat 8 (0x20 + 8 * cc.code), e] ∧
    encode (.retCC cc) = [BitVec.ofNat 8 (0xC0 + 8 * cc.code)]) ∧
  (∀ y : Fin 8, encode (.rst y) = [BitVec.ofNat 8 (0xC7 + 8 * y.val)]) ∧
  (∀ (op : ShiftOp) (x : Target),
    encode (.cbShift op x) = [0xCB, BitVec.ofNat 8 (8 * op.code + x.code)]) ∧
  ∀ (b : Fin 8) (x : Target), encode (.cbBit b x) = [0xCB, BitVec.ofNat 8 (0x40 + 8 * b.val + x.code)] ∧
    encode (.cbRes b x) = [0xCB, BitVec.ofNat 8 (0x80 + 8 * b.val + x.code)] ∧
    encode (.cbSet b x) = [0xCB, BitVec.ofNat 8 (0xC0 + 8 * b.val + x.code)]

/-- Words written out from the spec's encodings decode to what they stand for (spec/30_encoding.md
section 4). -/
def Obligations.WordsDecodeToTheirInstructions : Prop :=
  decodeTableWord 8 0b00000000 = some .nop ∧
  decodeTableWord 8 0b00111100 = some .inc_A ∧
  decodeTableWord 8 0b01111000 = some .ld_A_B ∧
  decodeTableWord 16 0b00010010_00111110 = some (.ld_A_n 0x12) ∧
  decodeTableWord 24 0b00010010_00110100_00100001 = some (.ld_HL_nn 0x1234) ∧
  decodeTableWord 8 0b10010110 = some .sub_mHL ∧
  decodeTableWord 8 0b11000101 = some .push_BC ∧
  decodeTableWord 16 0b11111110_00011000 = some (.jr_e 0xFE) ∧
  decodeTableWord 24 0b10000000_00000000_11001101 = some (.call_nn 0x8000) ∧
  decodeTableWord 16 0b00110110_11001011 = some .swap_mHL ∧
  decodeTableWord 16 0b01111111_11001011 = some .bit_7_A ∧
  decodeTableWord 8 0b11010011 = some .noInstruction_D3

/-! ## Registers -/

/-- A pair and its halves are one storage (spec/10_state.md R25, and R21, R22 in section 2): after a
write of a pair each half reads as its byte of the value, the low four bits of F as zero; and after a
write of a half the pair reads as that byte beside the old other byte. -/
def Obligations.PairAndHalvesAreOneStorage : Prop :=
  (∀ (s : State) (w : Word),
    (s.setReg16 .af w).reg8 .a = w.extractLsb' 8 8 ∧
    (s.setReg16 .af w).reg8 .f = w.extractLsb' 0 8 &&& 0xF0 ∧
    (s.setReg16 .bc w).reg8 .b = w.extractLsb' 8 8 ∧ (s.setReg16 .bc w).reg8 .c = w.extractLsb' 0 8 ∧
    (s.setReg16 .de w).reg8 .d = w.extractLsb' 8 8 ∧ (s.setReg16 .de w).reg8 .e = w.extractLsb' 0 8 ∧
    (s.setReg16 .hl w).reg8 .h = w.extractLsb' 8 8 ∧ (s.setReg16 .hl w).reg8 .l = w.extractLsb' 0 8) ∧
  ∀ (s : State) (v : Byte),
    (s.setReg8 .a v).reg16 .af = v ++ s.reg8 .f ∧ (s.setReg8 .f v).reg16 .af = s.reg8 .a ++ (v &&& 0xF0) ∧
    (s.setReg8 .b v).reg16 .bc = v ++ s.reg8 .c ∧ (s.setReg8 .c v).reg16 .bc = s.reg8 .b ++ v ∧
    (s.setReg8 .d v).reg16 .de = v ++ s.reg8 .e ∧ (s.setReg8 .e v).reg16 .de = s.reg8 .d ++ v ∧
    (s.setReg8 .h v).reg16 .hl = v ++ s.reg8 .l ∧ (s.setReg8 .l v).reg16 .hl = s.reg8 .h ++ v

/-! ## Memory -/

/-- `WriteU8` sets the byte at its address, at every address, and changes nothing else (spec/20_memory.md
R66); `ReadS8` is the same byte as a signed number (R64). -/
def Obligations.WriteU8SetsOneByte : Prop :=
  ∀ (s : State) (a : Word) (v : Byte),
    (s.writeU8 a v).readU8 a = v ∧ s.KeepsMemoryBut (s.writeU8 a v) [a] ∧
    (s.writeU8 a v) = { s with mem := (s.writeU8 a v).mem } ∧
    s.readS8 a = (if (s.readU8 a).toNat ≤ 127 then ((s.readU8 a).toNat : Int)
      else (s.readU8 a).toNat - 256)

/-- `WriteU16` with the bytes given stores the low byte at the address and the high byte at the next one,
and is `WriteU16` of the joined value (spec/20_memory.md R67, R68); what `WriteU16` writes reads back with
`ReadU16` at every address (R65, R71). That the address after `0xFFFF` is `0x0000` is the spec's own
decision (spec/92_eei_decisions.md D9), marked DEDUCED (log 9). -/
def Obligations.WriteU16IsLittleEndian : Prop :=
  ∀ (s : State) (a : Word) (hi lo : Byte) (v : Word),
    (s.writeU16Bytes a hi lo).readU8 a = lo ∧ (s.writeU16Bytes a hi lo).readU8 (a + 1) = hi ∧
    s.KeepsMemoryBut (s.writeU16Bytes a hi lo) [a, a + 1] ∧
    (s.writeU16Bytes a hi lo) = { s with mem := (s.writeU16Bytes a hi lo).mem } ∧
    s.writeU16 a (hi ++ lo) = s.writeU16Bytes a hi lo ∧
    (s.writeU16 a v).readU16 a = v

/-- `AddU8` and `SubU8` work on a byte in place with 8-bit wraparound, without flags
(spec/20_memory.md R69). -/
def Obligations.AddU8AndSubU8WorkInPlace : Prop :=
  ∀ (s : State) (a : Word) (v : Byte),
    (s.addU8 a v).readU8 a = BitVec.ofNat 8 ((s.readU8 a).toNat + v.toNat) ∧
    (s.subU8 a v).readU8 a = BitVec.ofNat 8 ((s.readU8 a).toNat + 256 - v.toNat) ∧
    s.KeepsMemoryBut (s.addU8 a v) [a] ∧ s.KeepsMemoryBut (s.subU8 a v) [a] ∧
    (s.addU8 a v) = { s with mem := (s.addU8 a v).mem } ∧
    (s.subU8 a v) = { s with mem := (s.subU8 a v).mem }

/-- IE and IF are the bytes at `0xFFFF` and `0xFF0F`, plain memory (spec/20_memory.md R70). -/
def Obligations.InterruptRegistersArePlainBytes : Prop :=
  ∀ (s : State) (v : Byte),
    s.getIE = s.readU8 0xFFFF ∧ s.getIF = s.readU8 0xFF0F ∧
    s.setIE v = s.writeU8 0xFFFF v ∧ s.setIF v = s.writeU8 0xFF0F v ∧
    (s.setIE v).getIE = v ∧ (s.setIF v).getIF = v ∧
    (s.setIE v).getIF = s.getIF ∧ (s.setIF v).getIE = s.getIE

/-- The form of memory is canonical: two memories in the form that read the same at every address are
equal (the model's own form: log 8; spec/10_state.md section 6). -/
def Obligations.CanonicalMemoriesAreEqual : Prop :=
  ∀ m n : Memory, m.wf → n.wf → (∀ a, m.read a = n.read a) → m = n

/-! ## Flag Engine -/

/-- The predicates as arithmetic (spec/40_flag_engine_alu.md R131 to R134, R136, R137). -/
def Obligations.FlagPredicatesAreArithmetic : Prop :=
  (∀ r : Byte, zeroFlag r = true ↔ r.toNat = 0) ∧
  (∀ a b : Byte, halfCarryAdd8 a b = true ↔ 15 < a.toNat % 16 + b.toNat % 16) ∧
  (∀ a b : Word, halfCarryAdd16 a b = true ↔ 15 < a.toNat / 256 % 16 + b.toNat / 256 % 16) ∧
  (∀ a b : Byte, carryAdd8 (a.toNat + b.toNat) = true ↔ 255 < a.toNat + b.toNat) ∧
  (∀ a b : Byte, borrowCarry a b = true ↔ a.toNat < b.toNat) ∧
  ∀ a b : Byte, borrowHalfCarry a b = true ↔ a.toNat % 16 < b.toNat % 16

/-- `Add8` and `Sub8`: the result wraps, every flag is written (spec/40_flag_engine_alu.md R139,
R140). -/
def Obligations.Add8AndSub8 : Prop :=
  ∀ x y : Byte,
    (add8 x y).result = BitVec.ofNat 8 (x.toNat + y.toNat) ∧
    (add8 x y).flags = flagByte (decide ((x.toNat + y.toNat) % 256 = 0)) false
      (decide (15 < x.toNat % 16 + y.toNat % 16)) (decide (255 < x.toNat + y.toNat)) ∧
    (sub8 x y).result = BitVec.ofNat 8 (x.toNat + 256 - y.toNat) ∧
    (sub8 x y).flags = flagByte (decide (x = y)) true (decide (x.toNat % 16 < y.toNat % 16))
      (decide (x.toNat < y.toNat))

/-- `And8`, `Or8`, `Xor8` and `Swap8` bit by bit, with their flags (spec/40_flag_engine_alu.md R145 to
R148). -/
def Obligations.LogicAndSwapOperations : Prop :=
  ∀ (x y : Byte) (k : Fin 8),
    (and8 x y).result.getLsbD k = (x.getLsbD k && y.getLsbD k) ∧
    (or8 x y).result.getLsbD k = (x.getLsbD k || y.getLsbD k) ∧
    (xor8 x y).result.getLsbD k = (x.getLsbD k ^^ y.getLsbD k) ∧
    (swap8 x).result.getLsbD k = x.getLsbD ((k.val + 4) % 8) ∧
    (and8 x y).flags = flagByte (decide ((and8 x y).result = 0)) false true false ∧
    (or8 x y).flags = flagByte (decide ((or8 x y).result = 0)) false false false ∧
    (xor8 x y).flags = flagByte (decide ((xor8 x y).result = 0)) false false false ∧
    (swap8 x).flags = flagByte (decide ((swap8 x).result = 0)) false false false

/-- The laws the document requires (spec/40_flag_engine_alu.md R152): `Add8` commutes with its flags,
`Sub8` always sets Negative, `Inc8` and `Dec8` undo each other, `AddHL16` keeps Zero, `And8` sets
Half-carry and `Or8` and `Xor8` clear it. -/
def Obligations.DocumentLaws : Prop :=
  (∀ x y : Byte, add8 x y = add8 y x) ∧
  (∀ x y : Byte, flagN (sub8 x y).flags = true) ∧
  (∀ f g x : Byte, (inc8 f (dec8 g x).result).result = x ∧ (dec8 f (inc8 g x).result).result = x) ∧
  (∀ (f : Byte) (hl v : Word), flagZ (addHL16Flags f hl v) = flagZ f) ∧
  ∀ x y : Byte, flagH (and8 x y).flags = true ∧ flagH (or8 x y).flags = false ∧
    flagH (xor8 x y).flags = false

/-- `Adc16` and `Sbc16` raise UnimplementedOperation and change no register, flag or memory byte
(spec/40_flag_engine_alu.md R150). -/
def Obligations.SixteenBitCarryOperationsRaise : Prop :=
  ∀ (x y : Word) (s : State),
    (∃ t, adc16 x y s = .next t ∧ s.Raised t) ∧ ∃ t, sbc16 x y s = .next t ∧ s.Raised t

/-- After adding or subtracting packed decimal numbers, `DAA` leaves their decimal sum or difference
modulo 100 in A and the decimal carry or borrow in C (spec/47_unimplemented_and_ext.md section 3). -/
def Obligations.DecimalAdjustGivesDecimalArithmetic : Prop :=
  ∀ x y : Nat, x < 100 → y < 100 →
    (daa8 (add8 (packedDecimal x) (packedDecimal y)).flags
      (add8 (packedDecimal x) (packedDecimal y)).result).result = packedDecimal ((x + y) % 100) ∧
    flagC (daa8 (add8 (packedDecimal x) (packedDecimal y)).flags
      (add8 (packedDecimal x) (packedDecimal y)).result).flags = decide (100 ≤ x + y) ∧
    (daa8 (sub8 (packedDecimal x) (packedDecimal y)).flags
      (sub8 (packedDecimal x) (packedDecimal y)).result).result = packedDecimal ((x + 100 - y) % 100) ∧
    flagC (daa8 (sub8 (packedDecimal x) (packedDecimal y)).flags
      (sub8 (packedDecimal x) (packedDecimal y)).result).flags = decide (x < y)

/-! ## Loads and stores -/

/-- `LD r,r'` and `LD r,n` (spec/42_loads_stores_stack.md section 2). -/
def Obligations.RegisterLoads : Prop :=
  (∀ (dst r : RField) (s : State), ∃ t, exec (.ldRR dst r) s = .next t ∧
    t.reg8 dst.reg = s.reg8 r.reg ∧ s.KeepsRegsBut t [dst.reg] ∧ t.sp = s.sp ∧ t.pc = s.pc + 1 ∧
    s.KeepsMemory t ∧ s.KeepsControl t) ∧
  ∀ (dst : RField) (n : Byte) (s : State), ∃ t, exec (.ldRN dst n) s = .next t ∧
    t.reg8 dst.reg = n ∧ s.KeepsRegsBut t [dst.reg] ∧ t.sp = s.sp ∧ t.pc = s.pc + 2 ∧
    s.KeepsMemory t ∧ s.KeepsControl t

/-- `LD r,(HL)`, `LD A,(BC)`, `LD A,(DE)`, `LD A,(nn)`, `LDH A,(n)` and `LD A,(C)`
(spec/42_loads_stores_stack.md sections 2 and 3). -/
def Obligations.LoadsFromMemory : Prop :=
  (∀ (dst : RField) (s : State), ∃ t, exec (.ldRMem dst) s = .next t ∧
    t.reg8 dst.reg = s.readU8 s.hl ∧ s.KeepsRegsBut t [dst.reg] ∧ t.sp = s.sp ∧ t.pc = s.pc + 1 ∧
    s.KeepsMemory t ∧ s.KeepsControl t) ∧
  ∀ (n : Byte) (nn : Word) (s : State),
    ∀ p ∈ ([(.ld_A_mBC, s.bc, 1), (.ld_A_mDE, s.de, 1), (.ld_A_mnn nn, nn, 3),
      (.ldh_A_mn n, BitVec.ofNat 16 (0xFF00 + n.toNat), 2),
      (.ld_A_mC, BitVec.ofNat 16 (0xFF00 + (s.reg8 .c).toNat), 1)] : List (Instr × Word × Word)),
    ∃ t, exec p.1 s = .next t ∧
      t.reg8 .a = s.readU8 p.2.1 ∧ s.KeepsRegsBut t [.a] ∧ t.sp = s.sp ∧ t.pc = s.pc + p.2.2 ∧
      s.KeepsMemory t ∧ s.KeepsControl t

/-- `LD (HL),r`, `LD (HL),n`, `LD (BC),A`, `LD (DE),A`, `LD (nn),A`, `LDH (n),A` and `LD (C),A`: the byte
at the address is the source's value, every other byte is as before
(spec/42_loads_stores_stack.md sections 2 and 3). -/
def Obligations.StoresToMemory : Prop :=
  (∀ (r : RField) (s : State), ∃ t, exec (.ldMemR r) s = .next t ∧
    t.readU8 s.hl = s.reg8 r.reg ∧ s.KeepsMemoryBut t [s.hl] ∧ s.KeepsRegsBut t [] ∧ t.sp = s.sp ∧
    t.pc = s.pc + 1 ∧ s.KeepsControl t) ∧
  (∀ (n : Byte) (s : State), ∃ t, exec (.ld_mHL_n n) s = .next t ∧
    t.readU8 s.hl = n ∧ s.KeepsMemoryBut t [s.hl] ∧ s.KeepsRegsBut t [] ∧ t.sp = s.sp ∧
    t.pc = s.pc + 2 ∧ s.KeepsControl t) ∧
  ∀ (n : Byte) (nn : Word) (s : State),
    ∀ p ∈ ([(.ld_mBC_A, s.bc, 1), (.ld_mDE_A, s.de, 1), (.ld_mnn_A nn, nn, 3),
      (.ldh_mn_A n, BitVec.ofNat 16 (0xFF00 + n.toNat), 2),
      (.ld_mC_A, BitVec.ofNat 16 (0xFF00 + (s.reg8 .c).toNat), 1)] : List (Instr × Word × Word)),
    ∃ t, exec p.1 s = .next t ∧
      t.readU8 p.2.1 = s.reg8 .a ∧ s.KeepsMemoryBut t [p.2.1] ∧ s.KeepsRegsBut t [] ∧ t.sp = s.sp ∧
      t.pc = s.pc + p.2.2 ∧ s.KeepsControl t

/-- `LD A,(HL+)`, `LD A,(HL-)`, `LD (HL+),A` and `LD (HL-),A`: the access is at the old HL, and HL then
goes up or down by one (spec/42_loads_stores_stack.md section 4). -/
def Obligations.LoadsAndStoresThatStepHL : Prop :=
  ∀ s : State,
    (∀ p ∈ ([(.ld_A_mHLi, s.hl + 1), (.ld_A_mHLd, s.hl - 1)] : List (Instr × Word)),
      ∃ t, exec p.1 s = .next t ∧ t.reg8 .a = s.readU8 s.hl ∧ t.hl = p.2 ∧
        s.KeepsRegsBut t [.a, .h, .l] ∧ t.sp = s.sp ∧ t.pc = s.pc + 1 ∧ s.KeepsMemory t ∧
        s.KeepsControl t) ∧
    ∀ p ∈ ([(.ld_mHLi_A, s.hl + 1), (.ld_mHLd_A, s.hl - 1)] : List (Instr × Word)),
      ∃ t, exec p.1 s = .next t ∧ t.readU8 s.hl = s.reg8 .a ∧ s.KeepsMemoryBut t [s.hl] ∧
        t.hl = p.2 ∧ s.KeepsRegsBut t [.h, .l] ∧ t.sp = s.sp ∧ t.pc = s.pc + 1 ∧ s.KeepsControl t

/-- `LD rr,nn`, `LD SP,HL` and `LD (nn),SP`, which stores the low byte of SP at `nn` and the high byte at
the next address (spec/42_loads_stores_stack.md section 5). -/
def Obligations.SixteenBitLoadsAndStore : Prop :=
  (∀ (p : RRField) (nn : Word) (s : State), ∃ t, exec (.ldPairNN p nn) s = .next t ∧
    t.reg16 p.reg = nn ∧ s.KeepsRegsBut t (halves p.reg) ∧ (p ≠ .sp → t.sp = s.sp) ∧
    t.pc = s.pc + 3 ∧ s.KeepsMemory t ∧ s.KeepsControl t) ∧
  (∀ s : State, ∃ t, exec .ld_SP_HL s = .next t ∧
    t.sp = s.hl ∧ s.KeepsRegsBut t [] ∧ t.pc = s.pc + 1 ∧ s.KeepsMemory t ∧ s.KeepsControl t) ∧
  ∀ (nn : Word) (s : State), ∃ t, exec (.ld_mnn_SP nn) s = .next t ∧
    t.readU8 nn = loByte s.sp ∧ t.readU8 (nn + 1) = hiByte s.sp ∧ s.KeepsMemoryBut t [nn, nn + 1] ∧
    s.KeepsRegsBut t [] ∧ t.sp = s.sp ∧ t.pc = s.pc + 3 ∧ s.KeepsControl t

/-- `PUSH qq`: SP goes down by 2, and the value is at the new SP, low byte first
(spec/42_loads_stores_stack.md section 6). -/
def Obligations.PushStoresThePair : Prop :=
  ∀ (q : QQField) (s : State), ∃ t, exec (.push q) s = .next t ∧
    t.readU8 (s.sp - 2) = loByte (s.reg16 q.reg) ∧ t.readU8 (s.sp - 1) = hiByte (s.reg16 q.reg) ∧
    s.KeepsMemoryBut t [s.sp - 2, s.sp - 1] ∧ t.sp = s.sp - 2 ∧ s.KeepsRegsBut t [] ∧
    t.pc = s.pc + 1 ∧ s.KeepsControl t

/-- `POP qq`: the pair is the value at the old SP, for AF with the low four bits of F at zero, and SP
goes up by 2 (spec/42_loads_stores_stack.md section 6; spec/10_state.md section 3). -/
def Obligations.PopLoadsThePair : Prop :=
  ∀ (q : QQField) (s : State), ∃ t, exec (.pop q) s = .next t ∧
    t.reg16 q.reg = (if q = .af then (s.readU8 (s.sp + 1) ++ (s.readU8 s.sp &&& 0xF0) : Word)
      else (s.readU8 (s.sp + 1) ++ s.readU8 s.sp : Word)) ∧
    t.sp = s.sp + 2 ∧ s.KeepsRegsBut t (halves q.reg) ∧ t.pc = s.pc + 1 ∧ s.KeepsMemory t ∧
    s.KeepsControl t

/-! ## 8-bit arithmetic -/

/-- `ADD A,y` and `ADC A,y` for every operand form: `ADC` adds `y` plus Carry, reduced to 8 bits
(spec/43_arith8.md sections 2 and 3; spec/92_eei_decisions.md D7: log 11). -/
def Obligations.AddAndAddWithCarry : Prop :=
  ∀ (y : AluOperand) (s : State),
    ∀ p ∈ ([(.add, (y.value s).toNat),
        (.adc, ((y.value s).toNat + (flagC (s.reg8 .f)).toNat) % 256)] : List (AluOp × Nat)),
    ∃ t, exec (y.instr p.1) s = .next t ∧
      t.reg8 .a = BitVec.ofNat 8 ((s.reg8 .a).toNat + p.2) ∧
      t.reg8 .f = flagByte (decide (((s.reg8 .a).toNat + p.2) % 256 = 0)) false
        (decide (15 < (s.reg8 .a).toNat % 16 + p.2 % 16)) (decide (255 < (s.reg8 .a).toNat + p.2)) ∧
      s.KeepsRegsBut t [.a, .f] ∧ t.sp = s.sp ∧ t.pc = s.pc + y.length ∧ s.KeepsMemory t ∧
      s.KeepsControl t

/-- `SUB y` and `CP y` for every operand form: the same flags, and `CP` writes no register but F
(spec/43_arith8.md sections 4 and 9). -/
def Obligations.SubtractAndCompare : Prop :=
  ∀ (y : AluOperand) (s : State),
    ∀ p ∈ ([(.sub, s.reg8 .a - y.value s), (.cp, s.reg8 .a)] : List (AluOp × Byte)),
    ∃ t, exec (y.instr p.1) s = .next t ∧
      t.reg8 .a = p.2 ∧
      t.reg8 .f = flagByte (decide (s.reg8 .a = y.value s)) true
        (decide ((s.reg8 .a).toNat % 16 < (y.value s).toNat % 16))
        (decide ((s.reg8 .a).toNat < (y.value s).toNat)) ∧
      s.KeepsRegsBut t [.a, .f] ∧ t.sp = s.sp ∧ t.pc = s.pc + y.length ∧ s.KeepsMemory t ∧
      s.KeepsControl t

/-- `SBC A,y` for every operand form and both values of SBC_ADJUST: `y` less Carry or plus Carry, reduced
to 8 bits, is subtracted (spec/43_arith8.md section 5; spec/92_eei_decisions.md D7, D8: logs 2, 11). -/
def Obligations.SubtractWithCarryByParameter : Prop :=
  ∀ (y : AluOperand) (s : State) (y' : Byte),
    (s.params.sbcAdjust = .dec → y' = y.value s - BitVec.ofNat 8 (flagC (s.reg8 .f)).toNat) →
    (s.params.sbcAdjust = .inc → y' = y.value s + BitVec.ofNat 8 (flagC (s.reg8 .f)).toNat) →
    ∃ t, exec (y.instr .sbc) s = .next t ∧
      t.reg8 .a = s.reg8 .a - y' ∧
      t.reg8 .f = flagByte (decide (s.reg8 .a = y')) true
        (decide ((s.reg8 .a).toNat % 16 < y'.toNat % 16)) (decide ((s.reg8 .a).toNat < y'.toNat)) ∧
      s.KeepsRegsBut t [.a, .f] ∧ t.sp = s.sp ∧ t.pc = s.pc + y.length ∧ s.KeepsMemory t ∧
      s.KeepsControl t

/-- `AND y`, `XOR y` and `OR y` for every operand form (spec/43_arith8.md sections 6 to 8). -/
def Obligations.LogicalOperations : Prop :=
  ∀ (y : AluOperand) (s : State),
    ∀ p ∈ ([(.and, s.reg8 .a &&& y.value s, true), (.xor, s.reg8 .a ^^^ y.value s, false),
        (.or, s.reg8 .a ||| y.value s, false)] : List (AluOp × Byte × Bool)),
    ∃ t, exec (y.instr p.1) s = .next t ∧
      t.reg8 .a = p.2.1 ∧ t.reg8 .f = flagByte (decide (p.2.1 = 0)) false p.2.2 false ∧
      s.KeepsRegsBut t [.a, .f] ∧ t.sp = s.sp ∧ t.pc = s.pc + y.length ∧ s.KeepsMemory t ∧
      s.KeepsControl t

/-- `INC r` and `DEC r`: Carry is kept (spec/43_arith8.md section 10). -/
def Obligations.IncrementAndDecrementRegister : Prop :=
  ∀ (r : RField) (s : State),
    (∃ t, exec (.incR r) s = .next t ∧
      t.reg8 r.reg = s.reg8 r.reg + 1 ∧
      t.reg8 .f = flagByte (decide (s.reg8 r.reg = 0xFF)) false
        (decide ((s.reg8 r.reg).toNat % 16 = 15)) (flagC (s.reg8 .f)) ∧
      s.KeepsRegsBut t [r.reg, .f] ∧ t.sp = s.sp ∧ t.pc = s.pc + 1 ∧ s.KeepsMemory t ∧
      s.KeepsControl t) ∧
    ∃ t, exec (.decR r) s = .next t ∧
      t.reg8 r.reg = s.reg8 r.reg - 1 ∧
      t.reg8 .f = flagByte (decide (s.reg8 r.reg = 1)) true
        (decide ((s.reg8 r.reg).toNat % 16 = 0)) (flagC (s.reg8 .f)) ∧
      s.KeepsRegsBut t [r.reg, .f] ∧ t.sp = s.sp ∧ t.pc = s.pc + 1 ∧ s.KeepsMemory t ∧
      s.KeepsControl t

/-- `INC (HL)` and `DEC (HL)` write no flag (spec/43_arith8.md section 11). -/
def Obligations.IncrementAndDecrementMemory : Prop :=
  ∀ s : State,
    ∀ p ∈ ([(.inc_mHL, s.readU8 s.hl + 1), (.dec_mHL, s.readU8 s.hl - 1)] : List (Instr × Byte)),
    ∃ t, exec p.1 s = .next t ∧
      t.readU8 s.hl = p.2 ∧ s.KeepsMemoryBut t [s.hl] ∧ s.KeepsRegsBut t [] ∧ t.sp = s.sp ∧
      t.pc = s.pc + 1 ∧ s.KeepsControl t

/-! ## 16-bit arithmetic -/

/-- `ADD HL,rr`: Zero is kept, Half-carry is of bits 11 to 8 alone (spec/44_arith16.md section 2;
spec/40_flag_engine_alu.md section 3). -/
def Obligations.AddPairToHL : Prop :=
  ∀ (p : RRField) (s : State), ∃ t, exec (.addHL p) s = .next t ∧
    t.hl = s.hl + s.reg16 p.reg ∧
    t.reg8 .f = flagByte (flagZ (s.reg8 .f)) false
      (decide (15 < s.hl.toNat / 256 % 16 + (s.reg16 p.reg).toNat / 256 % 16))
      (decide (65535 < s.hl.toNat + (s.reg16 p.reg).toNat)) ∧
    s.KeepsRegsBut t [.h, .l, .f] ∧ t.sp = s.sp ∧ t.pc = s.pc + 1 ∧ s.KeepsMemory t ∧
    s.KeepsControl t

/-- `INC rr` and `DEC rr`: no flag (spec/44_arith16.md section 3). -/
def Obligations.StepPair : Prop :=
  ∀ (p : RRField) (s : State),
    ∀ q ∈ ([(.incPair p, s.reg16 p.reg + 1), (.decPair p, s.reg16 p.reg - 1)] : List (Instr × Word)),
    ∃ t, exec q.1 s = .next t ∧
      t.reg16 p.reg = q.2 ∧ s.KeepsRegsBut t (halves p.reg) ∧ (p ≠ .sp → t.sp = s.sp) ∧
      t.pc = s.pc + 1 ∧ s.KeepsMemory t ∧ s.KeepsControl t

/-! ## Control transfer -/

/-- `NOP`, `JP nn`, `JP (HL)` and `JR e` (spec/45_control.md sections 2 to 4): only pc changes; the
displacement is signed and counts from the next instruction. -/
def Obligations.UnconditionalTransfers : Prop :=
  ∀ (nn : Word) (e : Byte) (s : State),
    (∀ p ∈ ([(.nop, s.pc + 1), (.jp_nn nn, nn), (.jp_HL, s.hl),
        (.jr_e e, BitVec.ofInt 16 ((s.pc.toNat : Int) + 2 + e.toInt))] : List (Instr × Word)),
      ∃ t, exec p.1 s = .next t ∧
        t.pc = p.2 ∧ s.KeepsRegsBut t [] ∧ t.sp = s.sp ∧ s.KeepsMemory t ∧ s.KeepsControl t)

/-- `JP cc,nn` and `JR cc,e` go to the target exactly where the condition holds: NZ, Z, NC and C are Zero
clear, Zero set, Carry clear and Carry set (spec/45_control.md sections 1, 3 and 4). -/
def Obligations.ConditionalTransfers : Prop :=
  ∀ (nn : Word) (e : Byte) (s : State),
    ∀ c ∈ ([(.nz, !(s.reg8 .f).getLsbD 7), (.z, (s.reg8 .f).getLsbD 7),
        (.nc, !(s.reg8 .f).getLsbD 4), (.c, (s.reg8 .f).getLsbD 4)] : List (Cond × Bool)),
    ∀ p ∈ ([(.jpCC c.1 nn, nn, 3),
        (.jrCC c.1 e, BitVec.ofInt 16 ((s.pc.toNat : Int) + 2 + e.toInt), 2)] :
        List (Instr × Word × Word)),
    ∃ t, exec p.1 s = .next t ∧
      t.pc = (if c.2 then p.2.1 else s.pc + p.2.2) ∧ s.KeepsRegsBut t [] ∧ t.sp = s.sp ∧
      s.KeepsMemory t ∧ s.KeepsControl t

/-- `CALL nn`, `CALL cc,nn` where the condition holds, and `RST`: the address of the next instruction is
pushed, low byte lower, and pc is the target (spec/45_control.md sections 5 and 6). -/
def Obligations.CallsPushTheReturnAddress : Prop :=
  ∀ (nn : Word) (y : Fin 8) (cc : Cond) (s : State),
    ∀ p ∈ (((.call_nn nn, nn, 3) :: (.rst y, BitVec.ofNat 16 (8 * y.val), 1) ::
        if s.cond cc then [(.callCC cc nn, nn, 3)] else []) : List (Instr × Word × Word)),
    ∃ t, exec p.1 s = .next t ∧
      t.pc = p.2.1 ∧ t.readU8 (s.sp - 2) = loByte (s.pc + p.2.2) ∧
      t.readU8 (s.sp - 1) = hiByte (s.pc + p.2.2) ∧ s.KeepsMemoryBut t [s.sp - 2, s.sp - 1] ∧
      t.sp = s.sp - 2 ∧ s.KeepsRegsBut t [] ∧ s.KeepsControl t

/-- `RET`, and `RET cc` where the condition holds: pc is the word at SP, SP goes up by 2
(spec/45_control.md section 5). -/
def Obligations.ReturnsPopTheReturnAddress : Prop :=
  ∀ (cc : Cond) (s : State),
    ∀ i ∈ ((.ret :: if s.cond cc then [.retCC cc] else []) : List Instr),
    ∃ t, exec i s = .next t ∧
      t.pc = (s.readU8 (s.sp + 1) ++ s.readU8 s.sp : Word) ∧ t.sp = s.sp + 2 ∧ s.KeepsRegsBut t [] ∧
      s.KeepsMemory t ∧ s.KeepsControl t

/-- `CALL cc,nn` and `RET cc` where the condition does not hold only go on to the next instruction
(spec/45_control.md section 5). -/
def Obligations.CallsAndReturnsNotTaken : Prop :=
  ∀ (nn : Word) (cc : Cond) (s : State), s.cond cc = false →
    ∀ p ∈ ([(.callCC cc nn, s.pc + 3), (.retCC cc, s.pc + 1)] : List (Instr × Word)),
    ∃ t, exec p.1 s = .next t ∧
      t.pc = p.2 ∧ s.KeepsRegsBut t [] ∧ t.sp = s.sp ∧ s.KeepsMemory t ∧ s.KeepsControl t

/-! ## The CB prefix and SWAP -/

/-- `SWAP t`: the nibbles of the operand change places (spec/46_cb_prefix_swap.md section 2). -/
def Obligations.SwapExchangesNibbles : Prop :=
  ∀ (x : Target) (s : State), ∃ t, exec (.cbShift .swap x) s = .next t ∧
    t.target x = (s.target x).rotateLeft 4 ∧
    t.reg8 .f = flagByte (decide (s.target x = 0)) false false false ∧
    s.KeepsRegsBut t (.f :: targetRegs x) ∧ s.KeepsMemoryBut t (s.targetAddrs x) ∧ t.sp = s.sp ∧
    t.pc = s.pc + 2 ∧ s.KeepsControl t

/-- The prefix with a sub-opcode does what the sub-opcode's own row does, and completes for `SWAP` in
every state (spec/46_cb_prefix_swap.md sections 1 and 3; log 12, and log 16 for the sub-opcode `0xCB`). -/
def Obligations.PrefixRunsTheSubOpcode : Prop :=
  (∀ (sub : Byte) (s : State), exec (.prefixCb sub) s = exec (cbInstr sub) s) ∧
  ∀ (x : Target) (s : State), ∃ t,
    exec (.prefixCb (BitVec.ofNat 8 (0x30 + x.code))) s = .next t ∧
    t.target x = (s.target x).rotateLeft 4 ∧ t.sp = s.sp ∧ t.pc = s.pc + 2 ∧ s.KeepsControl t

/-! ## Unimplemented operations -/

/-- HALT, STOP, DI, EI, RETI and the eleven bytes that select no instruction raise
UnimplementedOperation, whatever EXT_LR35902 is (spec/47_unimplemented_and_ext.md sections 1 and 5). -/
def Obligations.AlwaysUnimplemented : Prop :=
  ∀ s : State, ∀ i ∈ ([.halt, .stop, .di, .ei, .reti, .noInstruction_D3, .noInstruction_DB,
      .noInstruction_DD, .noInstruction_E3, .noInstruction_E4, .noInstruction_EB, .noInstruction_EC,
      .noInstruction_ED, .noInstruction_F4, .noInstruction_FC, .noInstruction_FD] : List Instr),
    ∃ t, exec i s = .next t ∧ s.Raised t

/-- Without EXT_LR35902 every other tier U instruction raises UnimplementedOperation
(spec/47_unimplemented_and_ext.md section 1; spec/46_cb_prefix_swap.md section 3). -/
def Obligations.UnimplementedWithoutTheExtension : Prop :=
  ∀ s : State, s.params.ext = false →
    (∀ e : Byte, ∀ i ∈ ([.rlca, .rrca, .rla, .rra, .daa, .cpl, .scf, .ccf, .add_SP_e e,
        .ld_HL_SPe e] : List Instr), ∃ t, exec i s = .next t ∧ s.Raised t) ∧
    (∀ (op : ShiftOp) (x : Target), op ≠ .swap →
      ∃ t, exec (.cbShift op x) s = .next t ∧ s.Raised t) ∧
    ∀ (b : Fin 8) (x : Target), ∀ i ∈ ([.cbBit b x, .cbRes b x, .cbSet b x] : List Instr),
      ∃ t, exec i s = .next t ∧ s.Raised t

/-! ## With EXT_LR35902 -/

/-- `RLCA`, `RRCA`, `RLA` and `RRA` rotate A, through Carry for the last two, and clear Zero
(spec/47_unimplemented_and_ext.md section 2). -/
def Obligations.AccumulatorRotates : Prop :=
  ∀ s : State, s.params.ext = true →
    ∀ p ∈ ([(.rlca, (s.reg8 .a).rotateLeft 1, (s.reg8 .a).getLsbD 7),
        (.rrca, (s.reg8 .a).rotateRight 1, (s.reg8 .a).getLsbD 0),
        (.rla, (s.reg8 .a).extractLsb' 0 7 ++ BitVec.ofBool (flagC (s.reg8 .f)),
          (s.reg8 .a).getLsbD 7),
        (.rra, BitVec.ofBool (flagC (s.reg8 .f)) ++ (s.reg8 .a).extractLsb' 1 7,
          (s.reg8 .a).getLsbD 0)] : List (Instr × Byte × Bool)),
    ∃ t, exec p.1 s = .next t ∧
      t.reg8 .a = p.2.1 ∧ t.reg8 .f = flagByte false false false p.2.2 ∧ s.KeepsRegsBut t [.a, .f] ∧
      t.sp = s.sp ∧ t.pc = s.pc + 1 ∧ s.KeepsMemory t ∧ s.KeepsControl t

/-- `DAA` clears Half-carry, keeps Negative and changes A by a decimal correction; `CPL` inverts A;
`SCF` and `CCF` write Carry (spec/47_unimplemented_and_ext.md section 3). -/
def Obligations.AccumulatorAndCarryInstructions : Prop :=
  ∀ s : State, s.params.ext = true →
    (∃ t, exec .daa s = .next t ∧
      t.reg8 .a = (daa8 (s.reg8 .f) (s.reg8 .a)).result ∧
      t.reg8 .f = flagByte (decide (t.reg8 .a = 0)) (flagN (s.reg8 .f)) false
        (flagC (s.reg8 .f) || (!flagN (s.reg8 .f) && decide (0x99 < (s.reg8 .a).toNat))) ∧
      s.KeepsRegsBut t [.a, .f] ∧ t.sp = s.sp ∧ t.pc = s.pc + 1 ∧ s.KeepsMemory t ∧
      s.KeepsControl t) ∧
    (∃ t, exec .cpl s = .next t ∧
      t.reg8 .a = ~~~(s.reg8 .a) ∧
      t.reg8 .f = flagByte (flagZ (s.reg8 .f)) true true (flagC (s.reg8 .f)) ∧
      s.KeepsRegsBut t [.a, .f] ∧ t.sp = s.sp ∧ t.pc = s.pc + 1 ∧ s.KeepsMemory t ∧
      s.KeepsControl t) ∧
    ∀ p ∈ ([(.scf, true), (.ccf, !flagC (s.reg8 .f))] : List (Instr × Bool)),
      ∃ t, exec p.1 s = .next t ∧
        t.reg8 .f = flagByte (flagZ (s.reg8 .f)) false false p.2 ∧ s.KeepsRegsBut t [.f] ∧
        t.sp = s.sp ∧ t.pc = s.pc + 1 ∧ s.KeepsMemory t ∧ s.KeepsControl t

/-- `ADD SP,e` and `LD HL,SP+e`: SP plus the signed displacement; Half-carry and Carry from the low byte
as unsigned (spec/47_unimplemented_and_ext.md section 4). -/
def Obligations.StackPointerPlusDisplacement : Prop :=
  ∀ (e : Byte) (s : State), s.params.ext = true →
    ∀ p ∈ ([(.add_SP_e e, .sp), (.ld_HL_SPe e, .hl)] : List (Instr × RRField)),
    ∃ t, exec p.1 s = .next t ∧
      t.reg16 p.2.reg = BitVec.ofInt 16 ((s.sp.toNat : Int) + e.toInt) ∧
      t.reg8 .f = flagByte false false (decide (15 < s.sp.toNat % 16 + e.toNat % 16))
        (decide (255 < s.sp.toNat % 256 + e.toNat)) ∧
      s.KeepsRegsBut t (.f :: halves p.2.reg) ∧ (p.2 ≠ .sp → t.sp = s.sp) ∧ t.pc = s.pc + 2 ∧
      s.KeepsMemory t ∧ s.KeepsControl t

/-- The CB-prefixed rotates and shifts of a register or of the byte at HL
(spec/47_unimplemented_and_ext.md section 6). -/
def Obligations.PrefixedRotatesAndShifts : Prop :=
  ∀ (x : Target) (s : State), s.params.ext = true →
    ∀ p ∈ ([(.rlc, (s.target x).rotateLeft 1, (s.target x).getLsbD 7),
        (.rrc, (s.target x).rotateRight 1, (s.target x).getLsbD 0),
        (.rl, (s.target x).extractLsb' 0 7 ++ BitVec.ofBool (flagC (s.reg8 .f)),
          (s.target x).getLsbD 7),
        (.rr, BitVec.ofBool (flagC (s.reg8 .f)) ++ (s.target x).extractLsb' 1 7,
          (s.target x).getLsbD 0),
        (.sla, (s.target x).extractLsb' 0 7 ++ 0#1, (s.target x).getLsbD 7),
        (.sra, (s.target x).sshiftRight 1, (s.target x).getLsbD 0),
        (.srl, 0#1 ++ (s.target x).extractLsb' 1 7, (s.target x).getLsbD 0)] :
        List (ShiftOp × Byte × Bool)),
    ∃ t, exec (.cbShift p.1 x) s = .next t ∧
      t.target x = p.2.1 ∧ t.reg8 .f = flagByte (decide (p.2.1 = 0)) false false p.2.2 ∧
      s.KeepsRegsBut t (.f :: targetRegs x) ∧ s.KeepsMemoryBut t (s.targetAddrs x) ∧ t.sp = s.sp ∧
      t.pc = s.pc + 2 ∧ s.KeepsControl t

/-- `BIT b,t` writes F only: Zero is the inverse of the bit, Carry is kept. `RES b,t` and `SET b,t` change
that one bit of the operand and no flag (spec/47_unimplemented_and_ext.md section 7). -/
def Obligations.BitOperations : Prop :=
  ∀ (b : Fin 8) (x : Target) (s : State), s.params.ext = true →
    (∃ t, exec (.cbBit b x) s = .next t ∧
      t.reg8 .f = flagByte (!(s.target x).getLsbD b) false true (flagC (s.reg8 .f)) ∧
      s.KeepsRegsBut t [.f] ∧ t.sp = s.sp ∧ t.pc = s.pc + 2 ∧ s.KeepsMemory t ∧ s.KeepsControl t) ∧
    ∀ p ∈ ([(.cbRes b x, false), (.cbSet b x, true)] : List (Instr × Bool)),
    ∃ t, exec p.1 s = .next t ∧
      (∀ k : Fin 8, (t.target x).getLsbD k = if k = b then p.2 else (s.target x).getLsbD k) ∧
      s.KeepsRegsBut t (targetRegs x) ∧ s.KeepsMemoryBut t (s.targetAddrs x) ∧ t.sp = s.sp ∧
      t.pc = s.pc + 2 ∧ s.KeepsControl t

/-! ## The step -/

/-- A step runs what the bytes at pc decode to, with CurrentOpcode at the opcode byte and pc still at it,
and adds nothing after it (spec/41_step_and_dispatch.md section 1). -/
def Obligations.StepRunsTheDecodedInstruction : Prop :=
  ∀ (s : State) (i : Instr) (rest : List Byte),
    s.run = .ready → s.stepState = .idle → s.pc.toNat < 0x8000 →
    decode [s.readU8 s.pc, s.readU8 (s.pc + 1), s.readU8 (s.pc + 2)] = .ok (i, rest) →
    step s = match exec i { s with currentOpcode := s.readU8 s.pc, stepState := .dispatching } with
      | .next t => .next { t with stepState := .idle }
      | .fault k => .fault k
      | .refused r => .refused r

/-- The guard (spec/41_step_and_dispatch.md R171): with pc at `0x8000` or above the step raises
OutOfRangePC, and nothing but the run state and the fault kind changes; and no other step of a machine
without a fault raises it. -/
def Obligations.GuardRaisesOutOfRangePC : Prop :=
  ∀ s : State, s.run = .ready → s.stepState = .idle →
    (0x8000 ≤ s.pc.toNat → step s = .next { s with run := .faulted, fault := some .outOfRangePC }) ∧
    (s.pc.toNat < 0x8000 → s.fault = none → ∀ t, step s = .next t → t.fault ≠ some .outOfRangePC)

/-- The step puts the byte at pc into CurrentOpcode and no handler writes CurrentOpcode after it; the
fetch does not change pc (spec/41_step_and_dispatch.md R172). -/
def Obligations.FetchSetsCurrentOpcode : Prop :=
  ∀ s t : State, s.pc.toNat < 0x8000 → step s = .next t →
    t.currentOpcode = s.readU8 s.pc ∧ s.beginStep.currentOpcode = s.readU8 s.pc ∧
      s.beginStep.pc = s.pc

/-- A handler completes, leaving the special registers alone, or raises UnimplementedOperation, its
writes discarded; it has no third outcome and never raises OutOfRangePC
(spec/41_step_and_dispatch.md R179). -/
def Obligations.HandlersHaveTwoOutcomes : Prop :=
  ∀ (i : Instr) (s : State), ∃ t, exec i s = .next t ∧
    (s.KeepsControl t ∨ t = { s with run := .faulted, fault := some .unimplementedOperation })

/-- A step answers a next state exactly in run state ready and step state idle, and else it is refused:
it never ends in another way (spec/41_step_and_dispatch.md sections 1 and 2; spec/92_eei_decisions.md
D13; logs 5, 6, 7). -/
def Obligations.StepAnswersExactlyWhenReady : Prop :=
  ∀ s : State,
    (s.run = .ready → s.stepState = .idle → ∃ t, step s = .next t) ∧
    (s.run ≠ .ready → step s = .refused .notReady) ∧
    (s.run = .ready → s.stepState ≠ .idle → step s = .refused .stepInProgress)

/-- Faults are precise: a step that leaves the machine faulted, over the reference table or any other,
changes no register and no byte of memory, and CurrentOpcode only if it fetched
(spec/60_exceptions.md section 1; spec/92_eei_decisions.md D11). -/
def Obligations.FaultsArePrecise : Prop :=
  (∀ s t : State, step s = .next t → t.run = .faulted →
    s.KeepsRegsBut t [] ∧ t.sp = s.sp ∧ t.pc = s.pc ∧ t.mem = s.mem ∧
    t.fault = some (if s.pc.toNat < 0x8000 then .unimplementedOperation else .outOfRangePC) ∧
    t.currentOpcode = (if s.pc.toNat < 0x8000 then s.readU8 s.pc else s.currentOpcode)) ∧
  ∀ (dt : DispatchTable) (s t : State), (∀ op, ObeysContract (dt op)) → stepWith dt s = .next t →
    t.run = .faulted →
    s.KeepsRegsBut t [] ∧ t.sp = s.sp ∧ t.pc = s.pc ∧ t.mem = s.mem ∧
    t.fault = some (if s.pc.toNat < 0x8000 then .unimplementedOperation else .outOfRangePC) ∧
    t.currentOpcode = (if s.pc.toNat < 0x8000 then s.readU8 s.pc else s.currentOpcode)

/-- No instruction's effect depends on CurrentOpcode (spec/41_step_and_dispatch.md section 4). -/
def Obligations.NoInstructionReadsCurrentOpcode : Prop :=
  ∀ (i : Instr) (s t : State) (b : Byte), exec i s = .next t →
    exec i { s with currentOpcode := b } = .next { t with currentOpcode := b }

/-- The step is the step over the reference table, each of whose handlers keeps its contract
(spec/41_step_and_dispatch.md sections 1 and 3). -/
def Obligations.StepIsTheStepOverTheReferenceTable : Prop :=
  (∀ s : State, stepWith dtRef s = step s) ∧ ∀ op : Byte, ObeysContract (dtRef op)

/-- Every step keeps the invariant: memory in its canonical form, the low four bits of F zero, a fault
kind exactly in run state faulted, and the step state idle (spec/10_state.md sections 3 and 5). So does
every step over any other dispatch table whose handlers keep the contract
(spec/41_step_and_dispatch.md section 3; spec/92_eei_decisions.md D32). -/
def Obligations.StepKeepsTheInvariant : Prop :=
  (∀ s t : State, s.Inv → step s = .next t → t.Inv) ∧
  ∀ (dt : DispatchTable) (s t : State), (∀ op, ObeysContract (dt op)) → s.Inv →
    stepWith dt s = .next t → t.Inv

/-! ## Reset and the host -/

/-- The state after reset meets the invariant. -/
def Obligations.ResetMeetsTheInvariant : Prop := State.reset.Inv

/-- The post-boot values (spec/10_state.md section 8). -/
def Obligations.ResetValues : Prop :=
  State.reset.pc = 0x0100 ∧ State.reset.sp = 0xFFFE ∧ State.reset.af = 0x01B0 ∧
  State.reset.bc = 0x0013 ∧ State.reset.de = 0x00D8 ∧ State.reset.hl = 0x014D ∧
  State.reset.run = .ready ∧ State.reset.fault = none ∧ State.reset.stepState = .idle ∧
  ∀ a, State.reset.readU8 a = 0

/-- The ROM load: an image of up to 32768 bytes stands from address 0, every other byte is as before, and
the registers and the run state are those after reset; a longer image writes no register and no byte,
and leaves the machine unloaded (spec/70_reset_and_hazards.md section 2; spec/92_eei_decisions.md D10,
D13). Two clauses are the model's choice and no rule of the spec: that CurrentOpcode is the same constant
after every accepted load, where the spec leaves it any value (log 3), and that the load leaves the
parameters alone (log 2). -/
def Obligations.RomLoad : Prop :=
  ∀ (s : State) (image : List Byte),
    (image.length ≤ 32768 →
      (∀ a : Word, (s.loadRom image).readU8 a =
        if h : a.toNat < image.length then image[a.toNat] else s.readU8 a) ∧
      (s.loadRom image) = { State.reset with mem := (s.loadRom image).mem, params := s.params }) ∧
    (32768 < image.length → s.loadRom image = { s with run := .unloaded, fault := none })

/-- A fault is sticky: from run state faulted no transaction of the host leads out of it but an accepted
or a refused ROM load and the end of the instance (spec/60_exceptions.md section 1;
spec/92_eei_decisions.md D13). -/
def Obligations.FaultIsSticky : Prop :=
  ∀ (s : State) (x : Transaction), s.run = .faulted → (∀ image, x ≠ .loadROM image) →
    x ≠ .destroyMachine →
    ∃ t, (perform (some s) x).1 = some t ∧ t.run = .faulted ∧ t.fault = s.fault

/-- Every transaction of the host keeps the invariant, and power-on meets it
(spec/70_reset_and_hazards.md sections 1, 2 and 4). -/
def Obligations.HostKeepsTheInvariant : Prop :=
  State.powerOn.Inv ∧
  ∀ (m : Option State) (x : Transaction), (∀ s, m = some s → s.Inv) →
    ∀ t, (perform m x).1 = some t → t.Inv
end

