-- ==== Sys2Proof/Laws/Memory.lean ====
section
/-!
SUPPORT. The laws of memory: reading after writing, and that every memory operation keeps the canonical
form. Reading after writing needs no premise on the memory.
-/

namespace Sys2Proof.Machine

@[simp] theorem Memory.read_nil (a : Nat) : Memory.read [] a = Config.memInit := rfl

theorem Memory.read_erase_same (m : Memory) (a : Nat) : (m.erase a).read a = Config.memInit := by
  induction m with
  | nil => rfl
  | cons c m ih =>
    obtain ⟨k, v⟩ := c
    by_cases h : k = a
    · simpa [Memory.erase, h] using ih
    · simp only [Memory.erase, List.filter_cons, ne_eq, h, not_false_eq_true, decide_true, if_true,
        Memory.read, if_false]
      exact ih

theorem Memory.read_erase_ne (m : Memory) {a b : Nat} (h : b ≠ a) :
    (m.erase a).read b = m.read b := by
  induction m with
  | nil => rfl
  | cons c m ih =>
    obtain ⟨k, v⟩ := c
    by_cases hk : k = a
    · subst hk
      simp only [Memory.erase, List.filter_cons, ne_eq, not_true_eq_false, decide_false,
        Bool.false_eq_true, if_false, Memory.read, if_neg (Ne.symm h)]
      exact ih
    · simp only [Memory.erase, List.filter_cons, ne_eq, hk, not_false_eq_true, decide_true, if_true,
        Memory.read]
      split
      · rfl
      · exact ih

theorem Memory.read_insert_same (m : Memory) (a : Nat) (v : Byte) (h : ∀ c ∈ m, c.1 ≠ a) :
    (m.insert a v).read a = v := by
  induction m with
  | nil => simp [Memory.insert, Memory.read]
  | cons c m ih =>
    obtain ⟨k, w⟩ := c
    simp only [Memory.insert]
    split
    · simp [Memory.read]
    · have hk : k ≠ a := h (k, w) (by simp)
      simpa [Memory.read, hk] using ih fun c hc => h c (by simp [hc])

theorem Memory.read_insert_ne (m : Memory) {a b : Nat} (v : Byte) (h : b ≠ a) :
    (m.insert a v).read b = m.read b := by
  induction m with
  | nil => simp [Memory.insert, Memory.read, Ne.symm h]
  | cons c m ih =>
    obtain ⟨k, w⟩ := c
    simp only [Memory.insert]
    split
    · simp [Memory.read, Ne.symm h]
    · simp only [Memory.read]
      split
      · rfl
      · exact ih

theorem Memory.ne_of_mem_erase {m : Memory} {a : Nat} {c : Host.Cell} (h : c ∈ m.erase a) :
    c.1 ≠ a := by
  simpa using (List.mem_filter.mp h).2

/-- A byte reads as what was last written to it. -/
@[simp] theorem Memory.read_write_same (m : Memory) (a : Nat) (v : Byte) :
    (m.write a v).read a = v := by
  unfold Memory.write
  split
  · next h => rw [Memory.read_erase_same, h]
  · exact Memory.read_insert_same _ _ _ fun _ => Memory.ne_of_mem_erase

/-- A write leaves every other byte alone. -/
theorem Memory.read_write_ne (m : Memory) {a b : Nat} (v : Byte) (h : b ≠ a) :
    (m.write a v).read b = m.read b := by
  unfold Memory.write
  split
  · exact Memory.read_erase_ne m h
  · rw [Memory.read_insert_ne _ _ h, Memory.read_erase_ne m h]

/-! ## The canonical form -/

theorem Memory.wf_nil : Memory.wf [] := by decide

theorem Memory.erase_wf {m : Memory} (a : Nat) (h : m.wf) : (m.erase a).wf :=
  ⟨h.1.sublist List.filter_sublist, fun c hc => h.2 c (List.mem_filter.mp hc).1⟩

theorem Memory.mem_insert {m : Memory} {a : Nat} {v : Byte} {c : Host.Cell} (h : c ∈ m.insert a v) :
    c = (a, v) ∨ c ∈ m := by
  induction m with
  | nil => simpa [Memory.insert] using h
  | cons d m ih =>
    obtain ⟨k, w⟩ := d
    simp only [Memory.insert] at h
    split at h
    · simpa using h
    · rcases List.mem_cons.mp h with rfl | h
      · simp
      · rcases ih h with h | h <;> simp [h]

theorem Memory.insert_sorted {m : Memory} {a : Nat} (v : Byte)
    (h : m.Pairwise fun c d => c.1 < d.1) (hn : ∀ c ∈ m, c.1 ≠ a) :
    (m.insert a v).Pairwise fun c d => c.1 < d.1 := by
  induction m with
  | nil => simp [Memory.insert]
  | cons d m ih =>
    obtain ⟨k, w⟩ := d
    obtain ⟨hk, hm⟩ := List.pairwise_cons.mp h
    simp only [Memory.insert]
    split
    · next hlt =>
      refine List.pairwise_cons.mpr ⟨fun c hc => ?_, h⟩
      rcases List.mem_cons.mp hc with rfl | hc
      · exact hlt
      · exact lt_trans hlt (hk c hc)
    · next hge =>
      have hka : k ≠ a := hn (k, w) (by simp)
      refine List.pairwise_cons.mpr ⟨fun c hc => ?_, ih hm fun c hc => hn c (by simp [hc])⟩
      rcases Memory.mem_insert hc with rfl | hc
      · exact lt_of_le_of_ne (not_lt.mp hge) hka
      · exact hk c hc

/-- A write inside the address space keeps the canonical form. -/
theorem Memory.write_wf {m : Memory} {a : Nat} (v : Byte) (h : m.wf) (ha : a < Config.memSize) :
    (m.write a v).wf := by
  unfold Memory.write
  split
  · exact Memory.erase_wf a h
  · next hv =>
    have he := Memory.erase_wf a h
    refine ⟨Memory.insert_sorted v he.1 fun _ => Memory.ne_of_mem_erase, fun c hc => ?_⟩
    rcases Memory.mem_insert hc with rfl | hc
    · exact ⟨ha, hv⟩
    · exact he.2 c hc

/-- Loading an image that fits keeps the canonical form. -/
theorem Memory.load_wf {m : Memory} {base : Nat} {image : List Byte} (h : m.wf)
    (hb : base + image.length ≤ Config.memSize) : (m.load base image).wf := by
  induction image generalizing m base with
  | nil => exact h
  | cons v image ih =>
    simp only [List.length_cons] at hb
    exact ih (Memory.write_wf v h (by omega)) (by omega)

/-! ## The accessors -/

theorem Word.toNat_lt_memSize (a : Word) : a.toNat < Config.memSize := a.isLt

@[simp] theorem readU8_writeU8_same (s : State) (a : Word) (v : Byte) :
    (s.writeU8 a v).readU8 a = v :=
  Memory.read_write_same ..

theorem readU8_writeU8_ne (s : State) {a b : Word} (v : Byte) (h : b ≠ a) :
    (s.writeU8 a v).readU8 b = s.readU8 b :=
  Memory.read_write_ne _ _ fun hn => h (BitVec.eq_of_toNat_eq hn)

theorem writeU8_wf {s : State} (a : Word) (v : Byte) (h : s.mem.wf) : (s.writeU8 a v).mem.wf :=
  Memory.write_wf v h (Word.toNat_lt_memSize a)

theorem writeU16Bytes_wf {s : State} (a : Word) (hi lo : Byte) (h : s.mem.wf) :
    (s.writeU16Bytes a hi lo).mem.wf :=
  writeU8_wf _ _ (writeU8_wf _ _ h)

theorem writeU16_wf {s : State} (a v : Word) (h : s.mem.wf) : (s.writeU16 a v).mem.wf :=
  writeU16Bytes_wf _ _ _ h

theorem addU8_wf {s : State} (a : Word) (v : Byte) (h : s.mem.wf) : (s.addU8 a v).mem.wf :=
  writeU8_wf _ _ h

theorem subU8_wf {s : State} (a : Word) (v : Byte) (h : s.mem.wf) : (s.subU8 a v).mem.wf :=
  writeU8_wf _ _ h

theorem setIE_wf {s : State} (v : Byte) (h : s.mem.wf) : (s.setIE v).mem.wf := writeU8_wf _ _ h

theorem setIF_wf {s : State} (v : Byte) (h : s.mem.wf) : (s.setIF v).mem.wf := writeU8_wf _ _ h

end Sys2Proof.Machine
end

