-- ==== Sys2Proof/Laws/Word.lean ====
section
/-!
SUPPORT. The small lemmas of bytes, words and F values.
-/

namespace Sys2Proof

theorem toNat_joinBytes (h l : Byte) : (joinBytes h l).toNat = h.toNat * 256 + l.toNat := by
  have : (joinBytes h l).toNat = h.toNat <<< 8 ||| l.toNat := BitVec.toNat_append h l
  rw [this, ← Nat.shiftLeft_add_eq_or_of_lt l.isLt, Nat.shiftLeft_eq]

theorem toNat_hiByte (w : Word) : (hiByte w).toNat = w.toNat / 256 := by
  have := w.isLt
  simp only [hiByte, BitVec.extractLsb'_toNat, Nat.shiftRight_eq_div_pow]
  omega

theorem toNat_loByte (w : Word) : (loByte w).toNat = w.toNat % 256 := by
  simp [loByte]

@[simp] theorem hiByte_joinBytes (h l : Byte) : hiByte (joinBytes h l) = h := by
  apply BitVec.eq_of_toNat_eq
  rw [toNat_hiByte, toNat_joinBytes]
  omega

@[simp] theorem loByte_joinBytes (h l : Byte) : loByte (joinBytes h l) = l := by
  apply BitVec.eq_of_toNat_eq
  rw [toNat_loByte, toNat_joinBytes]
  omega

@[simp] theorem joinBytes_hiByte_loByte (w : Word) : joinBytes (hiByte w) (loByte w) = w := by
  apply BitVec.eq_of_toNat_eq
  rw [toNat_joinBytes, toNat_hiByte, toNat_loByte]
  omega

end Sys2Proof

namespace Sys2Proof.Machine

@[simp] theorem hiByte_maskAF (w : Word) : hiByte (maskAF w) = hiByte w := by
  have h : ∀ i : Fin 8, (0xFFF0#16).getLsbD (8 + i.val) = true := by decide
  ext i hi
  simpa [hiByte, maskAF] using fun _ => h ⟨i, hi⟩

@[simp] theorem loByte_maskAF (w : Word) : loByte (maskAF w) = loByte w &&& 0xF0 := by
  have h : ∀ i : Fin 8, (0xFFF0#16).getLsbD i.val = (0xF0#8).getLsbD i.val := by decide
  ext i hi
  have := h ⟨i, hi⟩
  simp only [BitVec.getLsbD_eq_getElem (show i < 8 from hi)] at this
  simp [loByte, maskAF, this]

@[simp] theorem flagZ_flagByte (z n h c : Bool) : flagZ (flagByte z n h c) = z := by
  cases z <;> cases n <;> cases h <;> cases c <;> rfl

@[simp] theorem flagN_flagByte (z n h c : Bool) : flagN (flagByte z n h c) = n := by
  cases z <;> cases n <;> cases h <;> cases c <;> rfl

@[simp] theorem flagH_flagByte (z n h c : Bool) : flagH (flagByte z n h c) = h := by
  cases z <;> cases n <;> cases h <;> cases c <;> rfl

@[simp] theorem flagC_flagByte (z n h c : Bool) : flagC (flagByte z n h c) = c := by
  cases z <;> cases n <;> cases h <;> cases c <;> rfl

/-- A built F value has no low bits, so the write port does not change it. -/
@[simp] theorem flagByte_masked (z n h c : Bool) :
    flagByte z n h c &&& 0xF0 = flagByte z n h c := by
  cases z <;> cases n <;> cases h <;> cases c <;> rfl

theorem masked_low (v : Byte) : v &&& 0xF0 &&& 0x0F = 0 := by
  rw [BitVec.and_assoc]
  simp

/-! The new F of each operation is built by `flagByte`. -/

@[simp] theorem add8_flags_masked (x y : Byte) : (add8 x y).flags &&& 0xF0 = (add8 x y).flags :=
  flagByte_masked ..

@[simp] theorem sub8_flags_masked (x y : Byte) : (sub8 x y).flags &&& 0xF0 = (sub8 x y).flags :=
  flagByte_masked ..

@[simp] theorem inc8_flags_masked (f x : Byte) : (inc8 f x).flags &&& 0xF0 = (inc8 f x).flags :=
  flagByte_masked ..

@[simp] theorem dec8_flags_masked (f x : Byte) : (dec8 f x).flags &&& 0xF0 = (dec8 f x).flags :=
  flagByte_masked ..

@[simp] theorem addHL16Flags_masked (f : Byte) (hl v : Word) :
    addHL16Flags f hl v &&& 0xF0 = addHL16Flags f hl v :=
  flagByte_masked ..

@[simp] theorem aluResult_flags_masked (op : AluOp) (adjust : SbcAdjust) (f x y : Byte) :
    (aluResult op adjust f x y).flags &&& 0xF0 = (aluResult op adjust f x y).flags := by
  cases op <;> exact flagByte_masked ..

@[simp] theorem shiftResult_flags_masked (op : ShiftOp) (f v : Byte) :
    (shiftResult op f v).flags &&& 0xF0 = (shiftResult op f v).flags := by
  cases op <;> exact flagByte_masked ..

@[simp] theorem accRotate_flags_masked (op : ShiftOp) (f a : Byte) :
    (accRotate op f a).flags &&& 0xF0 = (accRotate op f a).flags :=
  flagByte_masked ..

@[simp] theorem daa8_flags_masked (f a : Byte) : (daa8 f a).flags &&& 0xF0 = (daa8 f a).flags := by
  unfold daa8
  split <;> exact flagByte_masked ..

@[simp] theorem spDisplacementFlags_masked (sp : Word) (n : Byte) :
    spDisplacementFlags sp n &&& 0xF0 = spDisplacementFlags sp n :=
  flagByte_masked ..

@[simp] theorem bitFlags_masked (f v : Byte) (b : Fin 8) :
    bitFlags f v b &&& 0xF0 = bitFlags f v b :=
  flagByte_masked ..

end Sys2Proof.Machine
end

