-- ==== Sys2Proof/Laws/State.lean ====
section
/-!
SUPPORT. One lemma per field per update of State, and what a register reads as after a write of
another.
-/

namespace Sys2Proof.Machine


/-! ## A write of an 8-bit register -/

@[simp] theorem setReg8_sp (s : State) (r : Reg8) (v : Byte) : (s.setReg8 r v).sp = s.sp := by cases r <;> rfl
@[simp] theorem setReg8_pc (s : State) (r : Reg8) (v : Byte) : (s.setReg8 r v).pc = s.pc := by cases r <;> rfl
@[simp] theorem setReg8_mem (s : State) (r : Reg8) (v : Byte) : (s.setReg8 r v).mem = s.mem := by cases r <;> rfl
@[simp] theorem setReg8_currentOpcode (s : State) (r : Reg8) (v : Byte) : (s.setReg8 r v).currentOpcode = s.currentOpcode := by cases r <;> rfl
@[simp] theorem setReg8_run (s : State) (r : Reg8) (v : Byte) : (s.setReg8 r v).run = s.run := by cases r <;> rfl
@[simp] theorem setReg8_fault (s : State) (r : Reg8) (v : Byte) : (s.setReg8 r v).fault = s.fault := by cases r <;> rfl
@[simp] theorem setReg8_stepState (s : State) (r : Reg8) (v : Byte) : (s.setReg8 r v).stepState = s.stepState := by cases r <;> rfl
@[simp] theorem setReg8_params (s : State) (r : Reg8) (v : Byte) : (s.setReg8 r v).params = s.params := by cases r <;> rfl

/-! ## A write of a 16-bit register -/

@[simp] theorem setReg16_mem (s : State) (p : Reg16) (w : Word) : (s.setReg16 p w).mem = s.mem := by cases p <;> rfl
@[simp] theorem setReg16_currentOpcode (s : State) (p : Reg16) (w : Word) : (s.setReg16 p w).currentOpcode = s.currentOpcode := by cases p <;> rfl
@[simp] theorem setReg16_run (s : State) (p : Reg16) (w : Word) : (s.setReg16 p w).run = s.run := by cases p <;> rfl
@[simp] theorem setReg16_fault (s : State) (p : Reg16) (w : Word) : (s.setReg16 p w).fault = s.fault := by cases p <;> rfl
@[simp] theorem setReg16_stepState (s : State) (p : Reg16) (w : Word) : (s.setReg16 p w).stepState = s.stepState := by cases p <;> rfl
@[simp] theorem setReg16_params (s : State) (p : Reg16) (w : Word) : (s.setReg16 p w).params = s.params := by cases p <;> rfl
@[simp] theorem setReg16_pc_af (s : State) (w : Word) : (s.setReg16 .pc w).af = s.af := rfl
@[simp] theorem setReg16_pc_bc (s : State) (w : Word) : (s.setReg16 .pc w).bc = s.bc := rfl
@[simp] theorem setReg16_pc_de (s : State) (w : Word) : (s.setReg16 .pc w).de = s.de := rfl
@[simp] theorem setReg16_pc_hl (s : State) (w : Word) : (s.setReg16 .pc w).hl = s.hl := rfl
@[simp] theorem setReg16_pc_sp (s : State) (w : Word) : (s.setReg16 .pc w).sp = s.sp := rfl
@[simp] theorem setReg16_pc_pc (s : State) (w : Word) : (s.setReg16 .pc w).pc = w := rfl
@[simp] theorem setReg16_sp_af (s : State) (w : Word) : (s.setReg16 .sp w).af = s.af := rfl
@[simp] theorem setReg16_sp_bc (s : State) (w : Word) : (s.setReg16 .sp w).bc = s.bc := rfl
@[simp] theorem setReg16_sp_de (s : State) (w : Word) : (s.setReg16 .sp w).de = s.de := rfl
@[simp] theorem setReg16_sp_hl (s : State) (w : Word) : (s.setReg16 .sp w).hl = s.hl := rfl
@[simp] theorem setReg16_sp_sp (s : State) (w : Word) : (s.setReg16 .sp w).sp = w := rfl
@[simp] theorem setReg16_sp_pc (s : State) (w : Word) : (s.setReg16 .sp w).pc = s.pc := rfl

/-! ## AdvancePC -/

@[simp] theorem advancePC_af (s : State) (d : Word) : (s.advancePC d).af = s.af := rfl
@[simp] theorem advancePC_bc (s : State) (d : Word) : (s.advancePC d).bc = s.bc := rfl
@[simp] theorem advancePC_de (s : State) (d : Word) : (s.advancePC d).de = s.de := rfl
@[simp] theorem advancePC_hl (s : State) (d : Word) : (s.advancePC d).hl = s.hl := rfl
@[simp] theorem advancePC_sp (s : State) (d : Word) : (s.advancePC d).sp = s.sp := rfl
@[simp] theorem advancePC_pc (s : State) (d : Word) : (s.advancePC d).pc = s.pc + d := rfl
@[simp] theorem advancePC_mem (s : State) (d : Word) : (s.advancePC d).mem = s.mem := rfl
@[simp] theorem advancePC_currentOpcode (s : State) (d : Word) : (s.advancePC d).currentOpcode = s.currentOpcode := rfl
@[simp] theorem advancePC_run (s : State) (d : Word) : (s.advancePC d).run = s.run := rfl
@[simp] theorem advancePC_fault (s : State) (d : Word) : (s.advancePC d).fault = s.fault := rfl
@[simp] theorem advancePC_stepState (s : State) (d : Word) : (s.advancePC d).stepState = s.stepState := rfl
@[simp] theorem advancePC_params (s : State) (d : Word) : (s.advancePC d).params = s.params := rfl

/-! ## A write of memory -/

@[simp] theorem writeU8_af (s : State) (a : Word) (v : Byte) : (s.writeU8 a v).af = s.af := rfl
@[simp] theorem writeU8_bc (s : State) (a : Word) (v : Byte) : (s.writeU8 a v).bc = s.bc := rfl
@[simp] theorem writeU8_de (s : State) (a : Word) (v : Byte) : (s.writeU8 a v).de = s.de := rfl
@[simp] theorem writeU8_hl (s : State) (a : Word) (v : Byte) : (s.writeU8 a v).hl = s.hl := rfl
@[simp] theorem writeU8_sp (s : State) (a : Word) (v : Byte) : (s.writeU8 a v).sp = s.sp := rfl
@[simp] theorem writeU8_pc (s : State) (a : Word) (v : Byte) : (s.writeU8 a v).pc = s.pc := rfl
@[simp] theorem writeU8_currentOpcode (s : State) (a : Word) (v : Byte) : (s.writeU8 a v).currentOpcode = s.currentOpcode := rfl
@[simp] theorem writeU8_run (s : State) (a : Word) (v : Byte) : (s.writeU8 a v).run = s.run := rfl
@[simp] theorem writeU8_fault (s : State) (a : Word) (v : Byte) : (s.writeU8 a v).fault = s.fault := rfl
@[simp] theorem writeU8_stepState (s : State) (a : Word) (v : Byte) : (s.writeU8 a v).stepState = s.stepState := rfl
@[simp] theorem writeU8_params (s : State) (a : Word) (v : Byte) : (s.writeU8 a v).params = s.params := rfl
@[simp] theorem writeU16Bytes_af (s : State) (a : Word) (hi lo : Byte) : (s.writeU16Bytes a hi lo).af = s.af := rfl
@[simp] theorem writeU16Bytes_bc (s : State) (a : Word) (hi lo : Byte) : (s.writeU16Bytes a hi lo).bc = s.bc := rfl
@[simp] theorem writeU16Bytes_de (s : State) (a : Word) (hi lo : Byte) : (s.writeU16Bytes a hi lo).de = s.de := rfl
@[simp] theorem writeU16Bytes_hl (s : State) (a : Word) (hi lo : Byte) : (s.writeU16Bytes a hi lo).hl = s.hl := rfl
@[simp] theorem writeU16Bytes_sp (s : State) (a : Word) (hi lo : Byte) : (s.writeU16Bytes a hi lo).sp = s.sp := rfl
@[simp] theorem writeU16Bytes_pc (s : State) (a : Word) (hi lo : Byte) : (s.writeU16Bytes a hi lo).pc = s.pc := rfl
@[simp] theorem writeU16Bytes_currentOpcode (s : State) (a : Word) (hi lo : Byte) : (s.writeU16Bytes a hi lo).currentOpcode = s.currentOpcode := rfl
@[simp] theorem writeU16Bytes_run (s : State) (a : Word) (hi lo : Byte) : (s.writeU16Bytes a hi lo).run = s.run := rfl
@[simp] theorem writeU16Bytes_fault (s : State) (a : Word) (hi lo : Byte) : (s.writeU16Bytes a hi lo).fault = s.fault := rfl
@[simp] theorem writeU16Bytes_stepState (s : State) (a : Word) (hi lo : Byte) : (s.writeU16Bytes a hi lo).stepState = s.stepState := rfl
@[simp] theorem writeU16Bytes_params (s : State) (a : Word) (hi lo : Byte) : (s.writeU16Bytes a hi lo).params = s.params := rfl
@[simp] theorem writeU16_af (s : State) (a v : Word) : (s.writeU16 a v).af = s.af := rfl
@[simp] theorem writeU16_bc (s : State) (a v : Word) : (s.writeU16 a v).bc = s.bc := rfl
@[simp] theorem writeU16_de (s : State) (a v : Word) : (s.writeU16 a v).de = s.de := rfl
@[simp] theorem writeU16_hl (s : State) (a v : Word) : (s.writeU16 a v).hl = s.hl := rfl
@[simp] theorem writeU16_sp (s : State) (a v : Word) : (s.writeU16 a v).sp = s.sp := rfl
@[simp] theorem writeU16_pc (s : State) (a v : Word) : (s.writeU16 a v).pc = s.pc := rfl
@[simp] theorem writeU16_currentOpcode (s : State) (a v : Word) : (s.writeU16 a v).currentOpcode = s.currentOpcode := rfl
@[simp] theorem writeU16_run (s : State) (a v : Word) : (s.writeU16 a v).run = s.run := rfl
@[simp] theorem writeU16_fault (s : State) (a v : Word) : (s.writeU16 a v).fault = s.fault := rfl
@[simp] theorem writeU16_stepState (s : State) (a v : Word) : (s.writeU16 a v).stepState = s.stepState := rfl
@[simp] theorem writeU16_params (s : State) (a v : Word) : (s.writeU16 a v).params = s.params := rfl
@[simp] theorem addU8_af (s : State) (a : Word) (v : Byte) : (s.addU8 a v).af = s.af := rfl
@[simp] theorem addU8_bc (s : State) (a : Word) (v : Byte) : (s.addU8 a v).bc = s.bc := rfl
@[simp] theorem addU8_de (s : State) (a : Word) (v : Byte) : (s.addU8 a v).de = s.de := rfl
@[simp] theorem addU8_hl (s : State) (a : Word) (v : Byte) : (s.addU8 a v).hl = s.hl := rfl
@[simp] theorem addU8_sp (s : State) (a : Word) (v : Byte) : (s.addU8 a v).sp = s.sp := rfl
@[simp] theorem addU8_pc (s : State) (a : Word) (v : Byte) : (s.addU8 a v).pc = s.pc := rfl
@[simp] theorem addU8_currentOpcode (s : State) (a : Word) (v : Byte) : (s.addU8 a v).currentOpcode = s.currentOpcode := rfl
@[simp] theorem addU8_run (s : State) (a : Word) (v : Byte) : (s.addU8 a v).run = s.run := rfl
@[simp] theorem addU8_fault (s : State) (a : Word) (v : Byte) : (s.addU8 a v).fault = s.fault := rfl
@[simp] theorem addU8_stepState (s : State) (a : Word) (v : Byte) : (s.addU8 a v).stepState = s.stepState := rfl
@[simp] theorem addU8_params (s : State) (a : Word) (v : Byte) : (s.addU8 a v).params = s.params := rfl
@[simp] theorem subU8_af (s : State) (a : Word) (v : Byte) : (s.subU8 a v).af = s.af := rfl
@[simp] theorem subU8_bc (s : State) (a : Word) (v : Byte) : (s.subU8 a v).bc = s.bc := rfl
@[simp] theorem subU8_de (s : State) (a : Word) (v : Byte) : (s.subU8 a v).de = s.de := rfl
@[simp] theorem subU8_hl (s : State) (a : Word) (v : Byte) : (s.subU8 a v).hl = s.hl := rfl
@[simp] theorem subU8_sp (s : State) (a : Word) (v : Byte) : (s.subU8 a v).sp = s.sp := rfl
@[simp] theorem subU8_pc (s : State) (a : Word) (v : Byte) : (s.subU8 a v).pc = s.pc := rfl
@[simp] theorem subU8_currentOpcode (s : State) (a : Word) (v : Byte) : (s.subU8 a v).currentOpcode = s.currentOpcode := rfl
@[simp] theorem subU8_run (s : State) (a : Word) (v : Byte) : (s.subU8 a v).run = s.run := rfl
@[simp] theorem subU8_fault (s : State) (a : Word) (v : Byte) : (s.subU8 a v).fault = s.fault := rfl
@[simp] theorem subU8_stepState (s : State) (a : Word) (v : Byte) : (s.subU8 a v).stepState = s.stepState := rfl
@[simp] theorem subU8_params (s : State) (a : Word) (v : Byte) : (s.subU8 a v).params = s.params := rfl

/-! ## A CB operand -/

@[simp] theorem setTarget_sp (s : State) (t : Target) (v : Byte) : (s.setTarget t v).sp = s.sp := by
  cases t with
  | reg r => cases r <;> rfl
  | mHL => rfl
@[simp] theorem setTarget_pc (s : State) (t : Target) (v : Byte) : (s.setTarget t v).pc = s.pc := by
  cases t with
  | reg r => cases r <;> rfl
  | mHL => rfl
@[simp] theorem setTarget_currentOpcode (s : State) (t : Target) (v : Byte) : (s.setTarget t v).currentOpcode = s.currentOpcode := by
  cases t with
  | reg r => cases r <;> rfl
  | mHL => rfl
@[simp] theorem setTarget_run (s : State) (t : Target) (v : Byte) : (s.setTarget t v).run = s.run := by
  cases t with
  | reg r => cases r <;> rfl
  | mHL => rfl
@[simp] theorem setTarget_fault (s : State) (t : Target) (v : Byte) : (s.setTarget t v).fault = s.fault := by
  cases t with
  | reg r => cases r <;> rfl
  | mHL => rfl
@[simp] theorem setTarget_stepState (s : State) (t : Target) (v : Byte) : (s.setTarget t v).stepState = s.stepState := by
  cases t with
  | reg r => cases r <;> rfl
  | mHL => rfl
@[simp] theorem setTarget_params (s : State) (t : Target) (v : Byte) : (s.setTarget t v).params = s.params := by
  cases t with
  | reg r => cases r <;> rfl
  | mHL => rfl

/-! ## The stack -/

@[simp] theorem push16_af (s : State) (v : Word) : (s.push16 v).af = s.af := rfl
@[simp] theorem push16_bc (s : State) (v : Word) : (s.push16 v).bc = s.bc := rfl
@[simp] theorem push16_de (s : State) (v : Word) : (s.push16 v).de = s.de := rfl
@[simp] theorem push16_hl (s : State) (v : Word) : (s.push16 v).hl = s.hl := rfl
@[simp] theorem push16_sp (s : State) (v : Word) : (s.push16 v).sp = s.sp - 2 := rfl
@[simp] theorem push16_pc (s : State) (v : Word) : (s.push16 v).pc = s.pc := rfl
@[simp] theorem push16_currentOpcode (s : State) (v : Word) : (s.push16 v).currentOpcode = s.currentOpcode := rfl
@[simp] theorem push16_run (s : State) (v : Word) : (s.push16 v).run = s.run := rfl
@[simp] theorem push16_fault (s : State) (v : Word) : (s.push16 v).fault = s.fault := rfl
@[simp] theorem push16_stepState (s : State) (v : Word) : (s.push16 v).stepState = s.stepState := rfl
@[simp] theorem push16_params (s : State) (v : Word) : (s.push16 v).params = s.params := rfl

/-! ## The step around a handler, and a fault -/

@[simp] theorem beginStep_af (s : State) : (s.beginStep).af = s.af := rfl
@[simp] theorem beginStep_bc (s : State) : (s.beginStep).bc = s.bc := rfl
@[simp] theorem beginStep_de (s : State) : (s.beginStep).de = s.de := rfl
@[simp] theorem beginStep_hl (s : State) : (s.beginStep).hl = s.hl := rfl
@[simp] theorem beginStep_sp (s : State) : (s.beginStep).sp = s.sp := rfl
@[simp] theorem beginStep_pc (s : State) : (s.beginStep).pc = s.pc := rfl
@[simp] theorem beginStep_run (s : State) : (s.beginStep).run = s.run := rfl
@[simp] theorem beginStep_fault (s : State) : (s.beginStep).fault = s.fault := rfl
@[simp] theorem beginStep_mem (s : State) : (s.beginStep).mem = s.mem := rfl
@[simp] theorem beginStep_params (s : State) : (s.beginStep).params = s.params := rfl
@[simp] theorem beginStep_stepState (s : State) : (s.beginStep).stepState = .dispatching := rfl
@[simp] theorem beginStep_currentOpcode (s : State) : (s.beginStep).currentOpcode = s.opcodeByte := rfl
@[simp] theorem endStep_af (s : State) : (s.endStep).af = s.af := rfl
@[simp] theorem endStep_bc (s : State) : (s.endStep).bc = s.bc := rfl
@[simp] theorem endStep_de (s : State) : (s.endStep).de = s.de := rfl
@[simp] theorem endStep_hl (s : State) : (s.endStep).hl = s.hl := rfl
@[simp] theorem endStep_sp (s : State) : (s.endStep).sp = s.sp := rfl
@[simp] theorem endStep_pc (s : State) : (s.endStep).pc = s.pc := rfl
@[simp] theorem endStep_run (s : State) : (s.endStep).run = s.run := rfl
@[simp] theorem endStep_fault (s : State) : (s.endStep).fault = s.fault := rfl
@[simp] theorem endStep_mem (s : State) : (s.endStep).mem = s.mem := rfl
@[simp] theorem endStep_params (s : State) : (s.endStep).params = s.params := rfl
@[simp] theorem endStep_currentOpcode (s : State) : (s.endStep).currentOpcode = s.currentOpcode := rfl
@[simp] theorem endStep_stepState (s : State) : (s.endStep).stepState = .idle := rfl
@[simp] theorem takeFault_af (s : State) (k : Fault) : (s.takeFault k).af = s.af := rfl
@[simp] theorem takeFault_bc (s : State) (k : Fault) : (s.takeFault k).bc = s.bc := rfl
@[simp] theorem takeFault_de (s : State) (k : Fault) : (s.takeFault k).de = s.de := rfl
@[simp] theorem takeFault_hl (s : State) (k : Fault) : (s.takeFault k).hl = s.hl := rfl
@[simp] theorem takeFault_sp (s : State) (k : Fault) : (s.takeFault k).sp = s.sp := rfl
@[simp] theorem takeFault_pc (s : State) (k : Fault) : (s.takeFault k).pc = s.pc := rfl
@[simp] theorem takeFault_mem (s : State) (k : Fault) : (s.takeFault k).mem = s.mem := rfl
@[simp] theorem takeFault_currentOpcode (s : State) (k : Fault) : (s.takeFault k).currentOpcode = s.currentOpcode := rfl
@[simp] theorem takeFault_stepState (s : State) (k : Fault) : (s.takeFault k).stepState = s.stepState := rfl
@[simp] theorem takeFault_params (s : State) (k : Fault) : (s.takeFault k).params = s.params := rfl
@[simp] theorem takeFault_run (s : State) (k : Fault) : (s.takeFault k).run = .faulted := rfl
@[simp] theorem takeFault_fault (s : State) (k : Fault) : (s.takeFault k).fault = some k := rfl

/-! ## Reading an 8-bit register -/

/-- A written register reads as the value, but for the low bits of F (spec/10_state.md R26). -/
theorem reg8_setReg8_same (s : State) {r : Reg8} (h : r ≠ .f) (v : Byte) :
    (s.setReg8 r v).reg8 r = v := by
  cases r <;> simp_all [State.setReg8, State.reg8]

@[simp] theorem reg8_setReg8_f (s : State) (v : Byte) : (s.setReg8 .f v).reg8 .f = v &&& 0xF0 := by
  simp [State.setReg8, State.reg8]

/-- The other half of the pair keeps its value, and so does every other pair. -/
theorem reg8_setReg8_ne (s : State) {r x : Reg8} (h : x ≠ r) (v : Byte) :
    (s.setReg8 r v).reg8 x = s.reg8 x := by
  cases r <;> cases x <;> simp_all [State.setReg8, State.reg8]

@[simp] theorem reg8_advancePC (s : State) (d : Word) (r : Reg8) :
    (s.advancePC d).reg8 r = s.reg8 r := by
  cases r <;> rfl

@[simp] theorem reg8_setReg16_pc (s : State) (w : Word) (r : Reg8) :
    (s.setReg16 .pc w).reg8 r = s.reg8 r := by
  cases r <;> rfl

@[simp] theorem reg8_setReg16_sp (s : State) (w : Word) (r : Reg8) :
    (s.setReg16 .sp w).reg8 r = s.reg8 r := by
  cases r <;> rfl

@[simp] theorem reg8_writeU8 (s : State) (a : Word) (v : Byte) (r : Reg8) :
    (s.writeU8 a v).reg8 r = s.reg8 r := by
  cases r <;> rfl

@[simp] theorem reg8_push16 (s : State) (v : Word) (r : Reg8) : (s.push16 v).reg8 r = s.reg8 r := by
  cases r <;> rfl

@[simp] theorem reg8_beginStep (s : State) (r : Reg8) : s.beginStep.reg8 r = s.reg8 r := by
  cases r <;> rfl

@[simp] theorem reg8_endStep (s : State) (r : Reg8) : s.endStep.reg8 r = s.reg8 r := by
  cases r <;> rfl

@[simp] theorem reg8_takeFault (s : State) (k : Fault) (r : Reg8) :
    (s.takeFault k).reg8 r = s.reg8 r := by
  cases r <;> rfl

/-! ## Reading memory -/

@[simp] theorem readU8_setReg8 (s : State) (r : Reg8) (v : Byte) (a : Word) :
    (s.setReg8 r v).readU8 a = s.readU8 a := by
  simp [State.readU8]

@[simp] theorem readU8_setReg16 (s : State) (p : Reg16) (w a : Word) :
    (s.setReg16 p w).readU8 a = s.readU8 a := by
  simp [State.readU8]

@[simp] theorem readU8_advancePC (s : State) (d a : Word) :
    (s.advancePC d).readU8 a = s.readU8 a := rfl

@[simp] theorem readU8_beginStep (s : State) (a : Word) : s.beginStep.readU8 a = s.readU8 a := rfl

@[simp] theorem readU8_endStep (s : State) (a : Word) : s.endStep.readU8 a = s.readU8 a := rfl

@[simp] theorem readU8_takeFault (s : State) (k : Fault) (a : Word) :
    (s.takeFault k).readU8 a = s.readU8 a := rfl

end Sys2Proof.Machine
end

