-- ==== Sys2Proof/Laws/Handlers.lean ====
section
/-!
SUPPORT. What each shared operation does, said once: the state it answers, and everything it leaves
alone.
-/

namespace Sys2Proof.Machine

/-! ## Helpers -/

theorem KeepsControl.of_eqs {s t : State} (h1 : t.currentOpcode = s.currentOpcode)
    (h2 : t.run = s.run) (h3 : t.fault = s.fault) (h4 : t.stepState = s.stepState)
    (h5 : t.params = s.params) : s.KeepsControl t := ⟨h1, h2, h3, h4, h5⟩

theorem reg8_setReg16_notHalf (s : State) {p : Reg16} {r : Reg8} (h : r ∉ halves p) (w : Word) :
    (s.setReg16 p w).reg8 r = s.reg8 r := by
  cases p <;> cases r <;> first | rfl | simp [halves] at h

theorem reg16_setReg16_same (s : State) {p : Reg16} (h : p ≠ .af) (w : Word) :
    (s.setReg16 p w).reg16 p = w := by
  cases p <;> first | rfl | exact absurd rfl h

theorem setReg16_sp_of_ne (s : State) {p : Reg16} (h : p ≠ .sp) (w : Word) :
    (s.setReg16 p w).sp = s.sp := by
  cases p <;> first | rfl | exact absurd rfl h

theorem setReg16_pc_of_ne (s : State) {p : Reg16} (h : p ≠ .pc) (w : Word) :
    (s.setReg16 p w).pc = s.pc := by
  cases p <;> first | rfl | exact absurd rfl h

@[simp] theorem reg16_advancePC_ne (s : State) {p : Reg16} (h : p ≠ .pc) (d : Word) :
    (s.advancePC d).reg16 p = s.reg16 p := by
  cases p <;> first | rfl | exact absurd rfl h

@[simp] theorem rField_reg_ne_f (r : RField) : r.reg ≠ .f := by cases r <;> decide

@[simp] theorem rrField_reg_ne_af (p : RRField) : p.reg ≠ .af := by cases p <;> decide

@[simp] theorem rrField_reg_ne_pc (p : RRField) : p.reg ≠ .pc := by cases p <;> decide

@[simp] theorem qqField_reg_ne_sp (p : QQField) : p.reg ≠ .sp := by cases p <;> decide

@[simp] theorem qqField_reg_ne_pc (p : QQField) : p.reg ≠ .pc := by cases p <;> decide

theorem word_sub_two_add_one (w : Word) : w - 2 + 1 = w - 1 := by bv_omega

theorem word_sub_one_ne_sub_two (w : Word) : w - 1 ≠ w - 2 := by bv_omega

/-! ## Loads and stores -/

theorem loadReg8_next {dst : Reg8} (h : dst ≠ .f) (v : Byte) (len : Word) (s : State) :
    ∃ t, loadReg8 dst v len s = .next t ∧ t.reg8 dst = v ∧ s.KeepsRegsBut t [dst] ∧ t.sp = s.sp ∧
      t.pc = s.pc + len ∧ s.KeepsMemory t ∧ s.KeepsControl t := by
  refine ⟨_, rfl, ?_, fun r hr => ?_, ?_, ?_, fun a => ?_, ?_⟩
  · simpa using reg8_setReg8_same s h v
  · simpa using reg8_setReg8_ne s (by simpa using hr) v
  · simp
  · simp
  · simp
  · constructor <;> simp

theorem storeMem8_next (a : Word) (v : Byte) (len : Word) (s : State) :
    ∃ t, storeMem8 a v len s = .next t ∧ t.readU8 a = v ∧ s.KeepsMemoryBut t [a] ∧
      s.KeepsRegsBut t [] ∧ t.sp = s.sp ∧ t.pc = s.pc + len ∧ s.KeepsControl t := by
  refine ⟨_, rfl, ?_, fun b hb => ?_, fun r _ => ?_, ?_, ?_, ?_⟩
  · simp
  · simpa using readU8_writeU8_ne s v (by simpa using hb)
  · simp
  · simp
  · simp
  · constructor <;> simp

theorem loadAStepHL_next (delta : Word) (s : State) :
    ∃ t, loadAStepHL delta s = .next t ∧ t.reg8 .a = s.readU8 s.hl ∧ t.hl = s.hl + delta ∧
      s.KeepsRegsBut t [.a, .h, .l] ∧ t.sp = s.sp ∧ t.pc = s.pc + 1 ∧ s.KeepsMemory t ∧
      s.KeepsControl t := by
  refine ⟨_, rfl, ?_, ?_, fun r hr => ?_, ?_, ?_, fun a => ?_, ?_⟩
  · simp [State.reg8, State.setReg16, State.setReg8]
  · simp [State.setReg16]
  · cases r <;> first | rfl | exact absurd hr (by decide) | simp [State.reg8, State.setReg16, State.setReg8]
  · rfl
  · rfl
  · rfl
  · constructor <;> rfl

theorem storeAStepHL_next (delta : Word) (s : State) :
    ∃ t, storeAStepHL delta s = .next t ∧ t.readU8 s.hl = s.reg8 .a ∧ s.KeepsMemoryBut t [s.hl] ∧
      t.hl = s.hl + delta ∧ s.KeepsRegsBut t [.h, .l] ∧ t.sp = s.sp ∧ t.pc = s.pc + 1 ∧
      s.KeepsControl t := by
  refine ⟨_, rfl, ?_, fun b hb => ?_, ?_, fun r hr => ?_, ?_, ?_, ?_⟩
  · simp
  · simpa using readU8_writeU8_ne s _ (by simpa using hb)
  · rfl
  · cases r <;> first | rfl | simp at hr
  · rfl
  · rfl
  · constructor <;> rfl

theorem loadReg16_next (p : RRField) (v len : Word) (s : State) :
    ∃ t, loadReg16 p.reg v len s = .next t ∧ t.reg16 p.reg = v ∧ s.KeepsRegsBut t (halves p.reg) ∧
      (p ≠ .sp → t.sp = s.sp) ∧ t.pc = s.pc + len ∧ s.KeepsMemory t ∧ s.KeepsControl t := by
  refine ⟨_, rfl, ?_, fun r hr => ?_, fun hp => ?_, ?_, fun a => ?_, ?_⟩
  · rw [reg16_advancePC_ne _ (by simp), reg16_setReg16_same _ (by simp)]
  · simpa using reg8_setReg16_notHalf s hr v
  · cases p <;> first | rfl | exact absurd rfl hp
  · simp [setReg16_pc_of_ne]
  · simp
  · constructor <;> simp

/-! ## The stack -/

theorem push16_low (s : State) (v : Word) : (s.push16 v).readU8 (s.sp - 2) = loByte v := by
  unfold State.push16 State.writeU16 State.writeU16Bytes
  rw [word_sub_two_add_one, readU8_writeU8_ne _ _ (word_sub_one_ne_sub_two _).symm]
  simp

theorem push16_high (s : State) (v : Word) : (s.push16 v).readU8 (s.sp - 1) = hiByte v := by
  unfold State.push16 State.writeU16 State.writeU16Bytes
  rw [word_sub_two_add_one]
  simp

theorem push16_memory (s : State) (v : Word) : s.KeepsMemoryBut (s.push16 v) [s.sp - 2, s.sp - 1] := by
  intro a ha
  simp only [List.mem_cons, List.not_mem_nil, or_false, not_or] at ha
  unfold State.push16 State.writeU16 State.writeU16Bytes
  rw [word_sub_two_add_one, readU8_writeU8_ne _ _ ha.2, readU8_writeU8_ne _ _ ha.1]
  simp

/-- What a push leaves in memory reads back as the pushed value. -/
theorem readU16_push16 (s : State) (v : Word) : (s.push16 v).readU16 (s.sp - 2) = v := by
  rw [State.readU16, word_sub_two_add_one, push16_low, push16_high, joinBytes_hiByte_loByte]

theorem pushPair_next (p : Reg16) (s : State) :
    ∃ t, pushPair p s = .next t ∧ t.readU8 (s.sp - 2) = loByte (s.reg16 p) ∧
      t.readU8 (s.sp - 1) = hiByte (s.reg16 p) ∧ s.KeepsMemoryBut t [s.sp - 2, s.sp - 1] ∧
      t.sp = s.sp - 2 ∧ s.KeepsRegsBut t [] ∧ t.pc = s.pc + 1 ∧ s.KeepsControl t := by
  refine ⟨_, rfl, ?_, ?_, ?_, ?_, fun r _ => ?_, ?_, ?_⟩
  · simpa using push16_low s _
  · simpa using push16_high s _
  · intro a ha; simpa using push16_memory s _ a ha
  · simp
  · simp
  · simp
  · constructor <;> simp

theorem popPair_next (p : QQField) (s : State) :
    ∃ t, popPair p.reg s = .next t ∧
      t.reg16 p.reg = (if p = .af then s.readU16 s.sp &&& 0xFFF0 else s.readU16 s.sp) ∧
      t.sp = s.sp + 2 ∧ s.KeepsRegsBut t (halves p.reg) ∧ t.pc = s.pc + 1 ∧ s.KeepsMemory t ∧
      s.KeepsControl t := by
  refine ⟨_, rfl, ?_, ?_, fun r hr => ?_, ?_, fun a => ?_, ?_⟩
  · cases p <;> rfl
  · cases p <;> rfl
  · cases p <;> cases r <;> first | rfl | simp [QQField.reg, halves] at hr
  · cases p <;> rfl
  · cases p <;> rfl
  · cases p <;> constructor <;> rfl

/-! ## Arithmetic -/

/-- Writing A and then F. -/
theorem reg8_a_setReg8_f (s : State) (v w : Byte) :
    ((s.setReg8 .a v).setReg8 .f w).reg8 .a = v := by
  rw [reg8_setReg8_ne _ (by decide), reg8_setReg8_same _ (by decide)]

theorem aluA_next (op : AluOp) (y : Byte) (len : Word) (s : State) :
    ∃ t, aluA op y len s = .next t ∧
      t.reg8 .a = (if op = .cp then s.reg8 .a
        else (aluResult op s.params.sbcAdjust (s.reg8 .f) (s.reg8 .a) y).result) ∧
      t.reg8 .f = (aluResult op s.params.sbcAdjust (s.reg8 .f) (s.reg8 .a) y).flags ∧
      s.KeepsRegsBut t [.a, .f] ∧ t.sp = s.sp ∧ t.pc = s.pc + len ∧ s.KeepsMemory t ∧
      s.KeepsControl t := by
  have hm := aluResult_flags_masked op s.params.sbcAdjust (s.reg8 .f) (s.reg8 .a) y
  by_cases hc : op = .cp
  · subst hc
    refine ⟨_, rfl, ?_, ?_, fun r hr => ?_, ?_, ?_, fun a => ?_, ?_⟩
    · simp [reg8_setReg8_ne]
    · simpa using hm
    · simpa using reg8_setReg8_ne s (by simp at hr; exact hr.2) _
    · simp
    · simp
    · simp
    · constructor <;> simp
  · have he : aluA op y len s = (((s.setReg8 .a
        (aluResult op s.params.sbcAdjust (s.reg8 .f) (s.reg8 .a) y).result).setReg8 .f
        (aluResult op s.params.sbcAdjust (s.reg8 .f) (s.reg8 .a) y).flags).done len) := by
      cases op <;> first | rfl | exact absurd rfl hc
    rw [he]
    refine ⟨_, rfl, ?_, ?_, fun r hr => ?_, ?_, ?_, fun a => ?_, ?_⟩
    · simp [reg8_a_setReg8_f, hc]
    · simpa using hm
    · simp only [List.mem_cons, List.not_mem_nil, or_false, not_or] at hr
      simp [reg8_setReg8_ne _ hr.1, reg8_setReg8_ne _ hr.2]
    · simp
    · simp
    · simp
    · constructor <;> simp

/-- An operation on one register that also writes F. -/
theorem setReg8_f_next {r : Reg8} (hr : r ≠ .f) (x : AluResult) (hm : x.flags &&& 0xF0 = x.flags)
    (len : Word) (s : State) :
    ∃ t, ((s.setReg8 r x.result).setReg8 .f x.flags).done len = .next t ∧ t.reg8 r = x.result ∧
      t.reg8 .f = x.flags ∧ s.KeepsRegsBut t [r, .f] ∧ t.sp = s.sp ∧ t.pc = s.pc + len ∧
      s.KeepsMemory t ∧ s.KeepsControl t := by
  refine ⟨_, rfl, ?_, ?_, fun q hq => ?_, ?_, ?_, fun a => ?_, ?_⟩
  · simp [reg8_setReg8_ne _ hr, reg8_setReg8_same _ hr]
  · simpa using hm
  · simp only [List.mem_cons, List.not_mem_nil, or_false, not_or] at hq
    simp [reg8_setReg8_ne _ hq.1, reg8_setReg8_ne _ hq.2]
  · simp
  · simp
  · simp
  · constructor <;> simp

theorem incReg8_next {r : Reg8} (hr : r ≠ .f) (s : State) :
    ∃ t, incReg8 r s = .next t ∧ t.reg8 r = (inc8 (s.reg8 .f) (s.reg8 r)).result ∧
      t.reg8 .f = (inc8 (s.reg8 .f) (s.reg8 r)).flags ∧ s.KeepsRegsBut t [r, .f] ∧ t.sp = s.sp ∧
      t.pc = s.pc + 1 ∧ s.KeepsMemory t ∧ s.KeepsControl t :=
  setReg8_f_next hr _ (inc8_flags_masked ..) 1 s

theorem decReg8_next {r : Reg8} (hr : r ≠ .f) (s : State) :
    ∃ t, decReg8 r s = .next t ∧ t.reg8 r = (dec8 (s.reg8 .f) (s.reg8 r)).result ∧
      t.reg8 .f = (dec8 (s.reg8 .f) (s.reg8 r)).flags ∧ s.KeepsRegsBut t [r, .f] ∧ t.sp = s.sp ∧
      t.pc = s.pc + 1 ∧ s.KeepsMemory t ∧ s.KeepsControl t :=
  setReg8_f_next hr _ (dec8_flags_masked ..) 1 s

theorem rotateA_next (op : ShiftOp) (s : State) :
    ∃ t, rotateA op s = .next t ∧ t.reg8 .a = (accRotate op (s.reg8 .f) (s.reg8 .a)).result ∧
      t.reg8 .f = (accRotate op (s.reg8 .f) (s.reg8 .a)).flags ∧ s.KeepsRegsBut t [.a, .f] ∧
      t.sp = s.sp ∧ t.pc = s.pc + 1 ∧ s.KeepsMemory t ∧ s.KeepsControl t :=
  setReg8_f_next (by decide) _ (accRotate_flags_masked ..) 1 s

theorem decimalAdjust_next (s : State) :
    ∃ t, decimalAdjust s = .next t ∧ t.reg8 .a = (daa8 (s.reg8 .f) (s.reg8 .a)).result ∧
      t.reg8 .f = (daa8 (s.reg8 .f) (s.reg8 .a)).flags ∧ s.KeepsRegsBut t [.a, .f] ∧
      t.sp = s.sp ∧ t.pc = s.pc + 1 ∧ s.KeepsMemory t ∧ s.KeepsControl t :=
  setReg8_f_next (by decide) _ (daa8_flags_masked ..) 1 s

theorem complementA_next (s : State) :
    ∃ t, complementA s = .next t ∧ t.reg8 .a = s.reg8 .a ^^^ 0xFF ∧
      t.reg8 .f = flagByte (flagZ (s.reg8 .f)) true true (flagC (s.reg8 .f)) ∧
      s.KeepsRegsBut t [.a, .f] ∧ t.sp = s.sp ∧ t.pc = s.pc + 1 ∧ s.KeepsMemory t ∧
      s.KeepsControl t :=
  setReg8_f_next (r := .a) (by decide) ⟨_, flagByte _ true true _⟩ (flagByte_masked ..) 1 s

/-- An instruction that writes F only. -/
theorem setF_next {f : Byte} (hm : f &&& 0xF0 = f) (len : Word) (s : State) :
    ∃ t, (s.setReg8 .f f).done len = .next t ∧ t.reg8 .f = f ∧ s.KeepsRegsBut t [.f] ∧
      t.sp = s.sp ∧ t.pc = s.pc + len ∧ s.KeepsMemory t ∧ s.KeepsControl t := by
  refine ⟨_, rfl, ?_, fun r hr => ?_, ?_, ?_, fun a => ?_, ?_⟩
  · simpa using hm
  · simpa using reg8_setReg8_ne s (by simpa using hr) f
  · simp
  · simp
  · simp
  · constructor <;> simp

theorem setCarry_next (s : State) :
    ∃ t, setCarry s = .next t ∧ t.reg8 .f = flagByte (flagZ (s.reg8 .f)) false false true ∧
      s.KeepsRegsBut t [.f] ∧ t.sp = s.sp ∧ t.pc = s.pc + 1 ∧ s.KeepsMemory t ∧
      s.KeepsControl t :=
  setF_next (flagByte_masked ..) 1 s

theorem complementCarry_next (s : State) :
    ∃ t, complementCarry s = .next t ∧
      t.reg8 .f = flagByte (flagZ (s.reg8 .f)) false false (!flagC (s.reg8 .f)) ∧
      s.KeepsRegsBut t [.f] ∧ t.sp = s.sp ∧ t.pc = s.pc + 1 ∧ s.KeepsMemory t ∧
      s.KeepsControl t :=
  setF_next (flagByte_masked ..) 1 s

theorem testBit_next (b : Fin 8) (x : Target) (s : State) :
    ∃ t, testBit b x s = .next t ∧ t.reg8 .f = bitFlags (s.reg8 .f) (s.target x) b ∧
      s.KeepsRegsBut t [.f] ∧ t.sp = s.sp ∧ t.pc = s.pc + 2 ∧ s.KeepsMemory t ∧
      s.KeepsControl t :=
  setF_next (bitFlags_masked ..) 2 s

theorem addHL_next (v : Word) (s : State) :
    ∃ t, addHL v s = .next t ∧ t.hl = addHL16Result s.hl v ∧
      t.reg8 .f = addHL16Flags (s.reg8 .f) s.hl v ∧ s.KeepsRegsBut t [.h, .l, .f] ∧ t.sp = s.sp ∧
      t.pc = s.pc + 1 ∧ s.KeepsMemory t ∧ s.KeepsControl t := by
  refine ⟨_, rfl, ?_, ?_, fun r hr => ?_, ?_, ?_, fun a => ?_, ?_⟩
  · rfl
  · simpa using addHL16Flags_masked ..
  · cases r <;> first | rfl | exact absurd hr (by decide) | simp [State.reg8, State.setReg16, State.setReg8]
  · rfl
  · rfl
  · rfl
  · constructor <;> rfl

theorem addSPTo_next (dst : RRField) (e : Byte) (s : State) :
    ∃ t, addSPTo dst.reg e s = .next t ∧ t.reg16 dst.reg = s.sp + sext16 e ∧
      t.reg8 .f = spDisplacementFlags s.sp e ∧ s.KeepsRegsBut t (.f :: halves dst.reg) ∧
      (dst ≠ .sp → t.sp = s.sp) ∧ t.pc = s.pc + 2 ∧ s.KeepsMemory t ∧ s.KeepsControl t := by
  refine ⟨_, rfl, ?_, ?_, fun r hr => ?_, fun hd => ?_, ?_, fun a => ?_, ?_⟩
  · cases dst <;> rfl
  · simpa using spDisplacementFlags_masked ..
  · simp only [List.mem_cons, not_or] at hr
    simpa [reg8_setReg8_ne _ hr.1] using reg8_setReg16_notHalf s hr.2 _
  · cases dst <;> first | rfl | exact absurd rfl hd
  · cases dst <;> rfl
  · cases dst <;> rfl
  · cases dst <;> constructor <;> rfl

theorem stepPair_next (p : RRField) (delta : Word) (s : State) :
    ∃ t, stepPair p.reg delta s = .next t ∧ t.reg16 p.reg = s.reg16 p.reg + delta ∧
      s.KeepsRegsBut t (halves p.reg) ∧ (p ≠ .sp → t.sp = s.sp) ∧ t.pc = s.pc + 1 ∧
      s.KeepsMemory t ∧ s.KeepsControl t :=
  loadReg16_next p _ 1 s

/-! ## Control transfer -/

theorem jumpTo_next (target : Word) (s : State) :
    ∃ t, jumpTo target s = .next t ∧ t.pc = target ∧ s.KeepsRegsBut t [] ∧ t.sp = s.sp ∧
      s.KeepsMemory t ∧ s.KeepsControl t := by
  refine ⟨_, rfl, rfl, fun r _ => ?_, rfl, fun _ => rfl, ?_⟩
  · simp
  · constructor <;> rfl

theorem done_next (len : Word) (s : State) :
    ∃ t, s.done len = .next t ∧ t.pc = s.pc + len ∧ s.KeepsRegsBut t [] ∧ t.sp = s.sp ∧
      s.KeepsMemory t ∧ s.KeepsControl t :=
  jumpTo_next (s.pc + len) s

theorem jumpIf_next (cc : Cond) (target len : Word) (s : State) :
    ∃ t, jumpIf cc target len s = .next t ∧
      t.pc = (if s.cond cc then target else s.pc + len) ∧ s.KeepsRegsBut t [] ∧ t.sp = s.sp ∧
      s.KeepsMemory t ∧ s.KeepsControl t := by
  unfold jumpIf
  split
  · exact jumpTo_next target s
  · exact done_next len s

theorem callTo_next (target len : Word) (s : State) :
    ∃ t, callTo target len s = .next t ∧ t.pc = target ∧
      t.readU8 (s.sp - 2) = loByte (s.pc + len) ∧ t.readU8 (s.sp - 1) = hiByte (s.pc + len) ∧
      s.KeepsMemoryBut t [s.sp - 2, s.sp - 1] ∧ t.sp = s.sp - 2 ∧ s.KeepsRegsBut t [] ∧
      s.KeepsControl t := by
  refine ⟨_, rfl, rfl, ?_, ?_, ?_, rfl, fun r _ => ?_, ?_⟩
  · simpa using push16_low s _
  · simpa using push16_high s _
  · intro a ha; simpa using push16_memory s _ a ha
  · simp
  · constructor <;> rfl

theorem returnTo_next (s : State) :
    ∃ t, returnTo s = .next t ∧ t.pc = s.readU16 s.sp ∧ t.sp = s.sp + 2 ∧ s.KeepsRegsBut t [] ∧
      s.KeepsMemory t ∧ s.KeepsControl t := by
  refine ⟨_, rfl, rfl, rfl, fun r _ => ?_, fun _ => rfl, ?_⟩
  · simp [State.pop16]
  · constructor <;> rfl

/-! ## CB operands -/

theorem target_setTarget (s : State) (x : Target) (v : Byte) :
    (s.setTarget x v).target x = v := by
  cases x with
  | reg r => exact reg8_setReg8_same s (rField_reg_ne_f r) v
  | mHL => exact readU8_writeU8_same s s.hl v

/-- The registers a CB instruction's operand is. -/
theorem reg8_setTarget_ne (s : State) {x : Target} {r : Reg8} (h : ∀ q, x = .reg q → r ≠ q.reg)
    (v : Byte) : (s.setTarget x v).reg8 r = s.reg8 r := by
  cases x with
  | reg q => exact reg8_setReg8_ne s (h q rfl) v
  | mHL => exact reg8_writeU8 ..

theorem readU8_setTarget_ne (s : State) {x : Target} {a : Word} (h : x = .mHL → a ≠ s.hl) (v : Byte) :
    (s.setTarget x v).readU8 a = s.readU8 a := by
  cases x with
  | reg q => exact readU8_setReg8 ..
  | mHL => exact readU8_writeU8_ne s v (h rfl)

/-- A CB instruction that writes its operand and not F. -/
theorem setTarget_next (x : Target) (v : Byte) (s : State) :
    ∃ t, (s.setTarget x v).done 2 = .next t ∧ t.target x = v ∧ s.KeepsRegsBut t (targetRegs x) ∧
      s.KeepsMemoryBut t (s.targetAddrs x) ∧ t.sp = s.sp ∧ t.pc = s.pc + 2 ∧ s.KeepsControl t := by
  refine ⟨_, rfl, ?_, fun r hr => ?_, fun a ha => ?_, ?_, ?_, ?_⟩
  · cases x with
    | reg q => simpa [State.target] using target_setTarget s (.reg q) v
    | mHL => exact target_setTarget s .mHL v
  · rw [reg8_advancePC]
    exact reg8_setTarget_ne s (fun q hq hr' => hr (by simp [hq, hr', targetRegs])) v
  · rw [readU8_advancePC]
    exact readU8_setTarget_ne s (fun hx hr' => ha (by simp [hx, hr', State.targetAddrs])) v
  · simp
  · simp
  · constructor <;> simp

/-- A CB instruction that writes its operand and F. -/
theorem setTarget_f_next (x : Target) (v : Byte) {f : Byte} (hm : f &&& 0xF0 = f) (s : State) :
    ∃ t, ((s.setTarget x v).setReg8 .f f).done 2 = .next t ∧ t.target x = v ∧ t.reg8 .f = f ∧
      s.KeepsRegsBut t (.f :: targetRegs x) ∧ s.KeepsMemoryBut t (s.targetAddrs x) ∧
      t.sp = s.sp ∧ t.pc = s.pc + 2 ∧ s.KeepsControl t := by
  refine ⟨_, rfl, ?_, ?_, fun r hr => ?_, fun a ha => ?_, ?_, ?_, ?_⟩
  · cases x with
    | reg q =>
      simp only [State.target, reg8_advancePC]
      rw [reg8_setReg8_ne _ (rField_reg_ne_f q)]
      exact target_setTarget s (.reg q) v
    | mHL => exact target_setTarget s .mHL v
  · simpa using hm
  · simp only [List.mem_cons, not_or] at hr
    rw [reg8_advancePC, reg8_setReg8_ne _ hr.1]
    exact reg8_setTarget_ne s (fun q hq hr' => hr.2 (by simp [hq, hr', targetRegs])) v
  · rw [readU8_advancePC, readU8_setReg8]
    exact readU8_setTarget_ne s (fun hx hr' => ha (by simp [hx, hr', State.targetAddrs])) v
  · simp
  · simp
  · constructor <;> simp

theorem shiftTarget_next (op : ShiftOp) (x : Target) (s : State) :
    ∃ t, shiftTarget op x s = .next t ∧
      t.target x = (shiftResult op (s.reg8 .f) (s.target x)).result ∧
      t.reg8 .f = (shiftResult op (s.reg8 .f) (s.target x)).flags ∧
      s.KeepsRegsBut t (.f :: targetRegs x) ∧ s.KeepsMemoryBut t (s.targetAddrs x) ∧
      t.sp = s.sp ∧ t.pc = s.pc + 2 ∧ s.KeepsControl t :=
  setTarget_f_next x _ (shiftResult_flags_masked ..) s

theorem resetBit_next (b : Fin 8) (x : Target) (s : State) :
    ∃ t, resetBit b x s = .next t ∧ t.target x = s.target x &&& ~~~(1#8 <<< b.val) ∧
      s.KeepsRegsBut t (targetRegs x) ∧ s.KeepsMemoryBut t (s.targetAddrs x) ∧ t.sp = s.sp ∧
      t.pc = s.pc + 2 ∧ s.KeepsControl t :=
  setTarget_next x _ s

theorem setBit_next (b : Fin 8) (x : Target) (s : State) :
    ∃ t, setBit b x s = .next t ∧ t.target x = s.target x ||| (1#8 <<< b.val) ∧
      s.KeepsRegsBut t (targetRegs x) ∧ s.KeepsMemoryBut t (s.targetAddrs x) ∧ t.sp = s.sp ∧
      t.pc = s.pc + 2 ∧ s.KeepsControl t :=
  setTarget_next x _ s

/-- The 16-bit store of a whole register. -/
theorem writeU16_next (a v len : Word) (s : State) :
    ∃ t, (s.writeU16 a v).done len = .next t ∧ t.readU8 a = loByte v ∧
      t.readU8 (a + 1) = hiByte v ∧ s.KeepsMemoryBut t [a, a + 1] ∧ s.KeepsRegsBut t [] ∧
      t.sp = s.sp ∧ t.pc = s.pc + len ∧ s.KeepsControl t := by
  have hne : a ≠ a + 1 := by bv_omega
  refine ⟨_, rfl, ?_, ?_, fun b hb => ?_, fun r _ => ?_, rfl, rfl, by constructor <;> rfl⟩
  · rw [readU8_advancePC, State.writeU16, State.writeU16Bytes, readU8_writeU8_ne _ _ hne]
    simp
  · rw [readU8_advancePC, State.writeU16, State.writeU16Bytes]
    simp
  · simp only [List.mem_cons, List.not_mem_nil, or_false, not_or] at hb
    rw [readU8_advancePC, State.writeU16, State.writeU16Bytes, readU8_writeU8_ne _ _ hb.2,
      readU8_writeU8_ne _ _ hb.1]
  · cases r <;> rfl

/-! ## The fault -/

theorem raiseUnimplemented_next (s : State) :
    ∃ t, raiseUnimplemented s = .next t ∧ s.Raised t :=
  ⟨_, rfl, ⟨rfl, rfl, fun r _ => by simp, rfl, rfl, fun _ => rfl, rfl, rfl, rfl⟩⟩

@[simp] theorem withExt_true {s : State} (h : s.params.ext = true) (m : State → Outcome) :
    withExt s m = m s := by
  simp [withExt, h]

@[simp] theorem withExt_false {s : State} (h : s.params.ext = false) (m : State → Outcome) :
    withExt s m = raiseUnimplemented s := by
  simp [withExt, h]

end Sys2Proof.Machine
end

