-- ==== Sys2Proof/Laws/Handles.lean ====
section
/-!
SUPPORT. What writes through the accessors keep; the two ways a handler can end, and that every shared
operation ends in one of them: the lemmas that a case split over exec's arms cites.
-/

namespace Sys2Proof.Machine

/-- What a handler that completes leaves as it was: the special registers, the canonical form of memory,
and the zero bits of F. -/
structure Keeps (s t : State) : Prop where
  control : s.KeepsControl t
  wf : s.mem.wf → t.mem.wf
  low : s.reg8 .f &&& 0x0F = 0 → t.reg8 .f &&& 0x0F = 0

/-- A handler completes, having written through the accessors only, or raises UnimplementedOperation,
its writes discarded. -/
def Handles (s : State) (o : Outcome) : Prop :=
  ∃ t, o = .next t ∧ (Writes s t ∨ t = s.takeFault .unimplementedOperation)

/-! ## One write -/

theorem Keeps.refl (s : State) : Keeps s s := ⟨⟨rfl, rfl, rfl, rfl, rfl⟩, id, id⟩

theorem Keeps.trans {s t u : State} (h : Keeps s t) (k : Keeps t u) : Keeps s u :=
  ⟨⟨k.control.1.trans h.control.1, k.control.2.trans h.control.2, k.control.3.trans h.control.3,
    k.control.4.trans h.control.4, k.control.5.trans h.control.5⟩, k.wf ∘ h.wf, k.low ∘ h.low⟩

theorem setReg8_keeps (s : State) (r : Reg8) (v : Byte) : Keeps s (s.setReg8 r v) := by
  refine ⟨by constructor <;> simp, fun hw => by simpa using hw, fun hl => ?_⟩
  by_cases hr : r = .f
  · subst hr
    rw [reg8_setReg8_f]
    exact masked_low v
  · rw [reg8_setReg8_ne _ (Ne.symm hr)]
    exact hl

theorem low_maskAF (w : Word) : loByte (maskAF w) &&& 0x0F = 0 := by
  rw [loByte_maskAF]
  exact masked_low _

theorem setReg16_keeps (s : State) (p : Reg16) (w : Word) : Keeps s (s.setReg16 p w) := by
  refine ⟨by constructor <;> simp, fun hw => by simpa using hw, fun hl => ?_⟩
  cases p <;> first | exact hl | exact low_maskAF w

theorem writeU8_keeps (s : State) (a : Word) (v : Byte) : Keeps s (s.writeU8 a v) :=
  ⟨⟨rfl, rfl, rfl, rfl, rfl⟩, writeU8_wf a v, id⟩

/-- What keeps the special registers, the form of memory and the zero bits of F keeps the invariant. -/
theorem Keeps.inv {s t : State} (h : Keeps s t) (hs : s.Inv) : t.Inv :=
  ⟨h.wf hs.1, h.low hs.2.1, by rw [h.control.fault, h.control.run]; exact hs.2.2.1,
    by rw [h.control.stepState]; exact hs.2.2.2⟩

/-! ## Any number of writes -/

/-- Writes through the accessors keep the special registers, the form of memory and the zero bits of F,
whoever makes them. -/
theorem Writes.keeps {s t : State} (h : Writes s t) : Keeps s t := by
  induction h with
  | refl => exact Keeps.refl s
  | setReg8 _ r v ih => exact ih.trans (setReg8_keeps _ r v)
  | setReg16 _ p w ih => exact ih.trans (setReg16_keeps _ p w)
  | writeU8 _ a v ih => exact ih.trans (writeU8_keeps _ a v)

theorem Writes.advancePC {s t : State} (h : Writes s t) (d : Word) : Writes s (t.advancePC d) :=
  h.setReg16 .pc (t.pc + d)

theorem Writes.writeU16 {s t : State} (h : Writes s t) (a v : Word) : Writes s (t.writeU16 a v) :=
  (h.writeU8 _ _).writeU8 _ _

theorem Writes.push16 {s t : State} (h : Writes s t) (v : Word) : Writes s (t.push16 v) :=
  (h.setReg16 .sp _).writeU16 _ _

theorem Writes.setTarget {s t : State} (h : Writes s t) (x : Target) (v : Byte) :
    Writes s (t.setTarget x v) := by
  cases x with
  | reg r => exact h.setReg8 _ _
  | mHL => exact h.writeU8 _ _

/-! ## The shared operations -/

theorem Writes.handles {s t : State} (h : Writes s t) (len : Word) : Handles s (t.done len) :=
  ⟨_, rfl, .inl (h.advancePC len)⟩

theorem raiseUnimplemented_handles (s : State) : Handles s (raiseUnimplemented s) :=
  ⟨_, rfl, .inr rfl⟩

theorem withExt_handles {s : State} {m : State → Outcome} (h : Handles s (m s)) :
    Handles s (withExt s m) := by
  unfold withExt
  split
  · exact h
  · exact raiseUnimplemented_handles s

theorem done_handles (len : Word) (s : State) : Handles s (s.done len) := (Writes.refl (s := s)).handles len

theorem loadReg8_handles (dst : Reg8) (v : Byte) (len : Word) (s : State) :
    Handles s (loadReg8 dst v len s) :=
  ((Writes.refl (s := s)).setReg8 _ _).handles len

theorem loadMem8_handles (dst : Reg8) (a len : Word) (s : State) :
    Handles s (loadMem8 dst a len s) :=
  loadReg8_handles ..

theorem storeMem8_handles (a : Word) (v : Byte) (len : Word) (s : State) :
    Handles s (storeMem8 a v len s) :=
  ((Writes.refl (s := s)).writeU8 _ _).handles len

theorem loadAStepHL_handles (delta : Word) (s : State) : Handles s (loadAStepHL delta s) :=
  (((Writes.refl (s := s)).setReg8 _ _).setReg16 _ _).handles 1

theorem storeAStepHL_handles (delta : Word) (s : State) : Handles s (storeAStepHL delta s) :=
  (((Writes.refl (s := s)).writeU8 _ _).setReg16 _ _).handles 1

theorem loadReg16_handles (dst : Reg16) (v len : Word) (s : State) :
    Handles s (loadReg16 dst v len s) :=
  ((Writes.refl (s := s)).setReg16 _ _).handles len

theorem pushPair_handles (p : Reg16) (s : State) : Handles s (pushPair p s) :=
  ((Writes.refl (s := s)).push16 _).handles 1

theorem popPair_handles (p : Reg16) (s : State) : Handles s (popPair p s) :=
  (((Writes.refl (s := s)).setReg16 _ _).setReg16 _ _).handles 1

theorem aluA_handles (op : AluOp) (y : Byte) (len : Word) (s : State) :
    Handles s (aluA op y len s) := by
  cases op <;>
    first
    | exact (((Writes.refl (s := s)).setReg8 _ _).setReg8 _ _).handles len
    | exact ((Writes.refl (s := s)).setReg8 _ _).handles len

theorem aluReg_handles (op : AluOp) (r : Reg8) (s : State) : Handles s (aluReg op r s) :=
  aluA_handles ..

theorem aluMem_handles (op : AluOp) (s : State) : Handles s (aluMem op s) := aluA_handles ..

/-- The operations that write one register and F. -/
theorem setReg8_f_handles (r : Reg8) (v f : Byte) (len : Word) (s : State) :
    Handles s (((s.setReg8 r v).setReg8 .f f).done len) :=
  (((Writes.refl (s := s)).setReg8 _ _).setReg8 _ _).handles len

theorem incReg8_handles (r : Reg8) (s : State) : Handles s (incReg8 r s) := setReg8_f_handles ..

theorem decReg8_handles (r : Reg8) (s : State) : Handles s (decReg8 r s) := setReg8_f_handles ..

theorem rotateA_handles (op : ShiftOp) (s : State) : Handles s (rotateA op s) := setReg8_f_handles ..

theorem decimalAdjust_handles (s : State) : Handles s (decimalAdjust s) := setReg8_f_handles ..

theorem complementA_handles (s : State) : Handles s (complementA s) := setReg8_f_handles ..

theorem setF_handles (f : Byte) (len : Word) (s : State) :
    Handles s ((s.setReg8 .f f).done len) :=
  ((Writes.refl (s := s)).setReg8 _ _).handles len

theorem setCarry_handles (s : State) : Handles s (setCarry s) := setF_handles ..

theorem complementCarry_handles (s : State) : Handles s (complementCarry s) := setF_handles ..

theorem testBit_handles (b : Fin 8) (x : Target) (s : State) : Handles s (testBit b x s) :=
  setF_handles ..

theorem incMem_handles (s : State) : Handles s ((s.addU8 s.hl 1).done 1) :=
  ((Writes.refl (s := s)).writeU8 _ _).handles 1

theorem decMem_handles (s : State) : Handles s ((s.subU8 s.hl 1).done 1) :=
  ((Writes.refl (s := s)).writeU8 _ _).handles 1

theorem addHL_handles (v : Word) (s : State) : Handles s (addHL v s) :=
  (((Writes.refl (s := s)).setReg16 _ _).setReg8 _ _).handles 1

theorem stepPair_handles (p : Reg16) (delta : Word) (s : State) : Handles s (stepPair p delta s) :=
  ((Writes.refl (s := s)).setReg16 _ _).handles 1

theorem addSPTo_handles (dst : Reg16) (e : Byte) (s : State) : Handles s (addSPTo dst e s) :=
  (((Writes.refl (s := s)).setReg16 _ _).setReg8 _ _).handles 2

theorem shiftTarget_handles (op : ShiftOp) (x : Target) (s : State) :
    Handles s (shiftTarget op x s) :=
  (((Writes.refl (s := s)).setTarget _ _).setReg8 _ _).handles 2

theorem resetBit_handles (b : Fin 8) (x : Target) (s : State) : Handles s (resetBit b x s) :=
  ((Writes.refl (s := s)).setTarget _ _).handles 2

theorem setBit_handles (b : Fin 8) (x : Target) (s : State) : Handles s (setBit b x s) :=
  ((Writes.refl (s := s)).setTarget _ _).handles 2

theorem jumpTo_handles (target : Word) (s : State) : Handles s (jumpTo target s) :=
  ⟨_, rfl, .inl ((Writes.refl (s := s)).setReg16 _ _)⟩

theorem jumpIf_handles (cc : Cond) (target len : Word) (s : State) :
    Handles s (jumpIf cc target len s) := by
  unfold jumpIf
  split
  · exact jumpTo_handles ..
  · exact done_handles ..

theorem callTo_handles (target len : Word) (s : State) : Handles s (callTo target len s) :=
  ⟨_, rfl, .inl (((Writes.refl (s := s)).push16 _).setReg16 _ _)⟩

theorem callIf_handles (cc : Cond) (target : Word) (s : State) : Handles s (callIf cc target s) := by
  unfold callIf
  split
  · exact callTo_handles ..
  · exact done_handles ..

theorem returnTo_handles (s : State) : Handles s (returnTo s) :=
  ⟨_, rfl, .inl (((Writes.refl (s := s)).setReg16 .sp (s.sp + 2)).setReg16 .pc (s.readU16 s.sp))⟩

theorem returnIf_handles (cc : Cond) (s : State) : Handles s (returnIf cc s) := by
  unfold returnIf
  split
  · exact returnTo_handles ..
  · exact done_handles ..

theorem cbHandler_handles (sub : Byte) (s : State) : Handles s (cbHandler sub s) := by
  unfold cbHandler
  dsimp only
  split
  · split
    · exact shiftTarget_handles ..
    · exact withExt_handles (shiftTarget_handles ..)
  · exact withExt_handles (testBit_handles ..)
  · exact withExt_handles (resetBit_handles ..)
  · exact withExt_handles (setBit_handles ..)

theorem writeU16_handles (a v len : Word) (s : State) : Handles s ((s.writeU16 a v).done len) :=
  ((Writes.refl (s := s)).writeU16 _ _).handles len

end Sys2Proof.Machine
end

