-- ==== Sys2Proof/Laws/PerInstr.lean ====
section
/-!
SUPPORT. Facts about every instruction as syntax, one lemma per constructor.
-/

namespace Sys2Proof.Laws

/-- An instruction's encoding is as long as its first byte says (spec/30_encoding.md R102). -/
def EncodedLength.Statement (i : Instr) : Prop :=
  ∃ op rest, encode i = op :: rest ∧ rest.length + 1 = lengthOf op

theorem EncodedLength.ld_BC_nn (nn : Word) : Statement (.ld_BC_nn nn) := ⟨_, _, rfl, rfl⟩
theorem EncodedLength.ld_B_n (n : Byte) : Statement (.ld_B_n n) := ⟨_, _, rfl, rfl⟩
theorem EncodedLength.ld_mnn_SP (nn : Word) : Statement (.ld_mnn_SP nn) := ⟨_, _, rfl, rfl⟩
theorem EncodedLength.ld_C_n (n : Byte) : Statement (.ld_C_n n) := ⟨_, _, rfl, rfl⟩
theorem EncodedLength.ld_DE_nn (nn : Word) : Statement (.ld_DE_nn nn) := ⟨_, _, rfl, rfl⟩
theorem EncodedLength.ld_D_n (n : Byte) : Statement (.ld_D_n n) := ⟨_, _, rfl, rfl⟩
theorem EncodedLength.jr_e (e : Byte) : Statement (.jr_e e) := ⟨_, _, rfl, rfl⟩
theorem EncodedLength.ld_E_n (n : Byte) : Statement (.ld_E_n n) := ⟨_, _, rfl, rfl⟩
theorem EncodedLength.jr_NZ_e (e : Byte) : Statement (.jr_NZ_e e) := ⟨_, _, rfl, rfl⟩
theorem EncodedLength.ld_HL_nn (nn : Word) : Statement (.ld_HL_nn nn) := ⟨_, _, rfl, rfl⟩
theorem EncodedLength.ld_H_n (n : Byte) : Statement (.ld_H_n n) := ⟨_, _, rfl, rfl⟩
theorem EncodedLength.jr_Z_e (e : Byte) : Statement (.jr_Z_e e) := ⟨_, _, rfl, rfl⟩
theorem EncodedLength.ld_L_n (n : Byte) : Statement (.ld_L_n n) := ⟨_, _, rfl, rfl⟩
theorem EncodedLength.jr_NC_e (e : Byte) : Statement (.jr_NC_e e) := ⟨_, _, rfl, rfl⟩
theorem EncodedLength.ld_SP_nn (nn : Word) : Statement (.ld_SP_nn nn) := ⟨_, _, rfl, rfl⟩
theorem EncodedLength.ld_mHL_n (n : Byte) : Statement (.ld_mHL_n n) := ⟨_, _, rfl, rfl⟩
theorem EncodedLength.jr_C_e (e : Byte) : Statement (.jr_C_e e) := ⟨_, _, rfl, rfl⟩
theorem EncodedLength.ld_A_n (n : Byte) : Statement (.ld_A_n n) := ⟨_, _, rfl, rfl⟩
theorem EncodedLength.jp_NZ_nn (nn : Word) : Statement (.jp_NZ_nn nn) := ⟨_, _, rfl, rfl⟩
theorem EncodedLength.jp_nn (nn : Word) : Statement (.jp_nn nn) := ⟨_, _, rfl, rfl⟩
theorem EncodedLength.call_NZ_nn (nn : Word) : Statement (.call_NZ_nn nn) := ⟨_, _, rfl, rfl⟩
theorem EncodedLength.add_A_n (n : Byte) : Statement (.add_A_n n) := ⟨_, _, rfl, rfl⟩
theorem EncodedLength.jp_Z_nn (nn : Word) : Statement (.jp_Z_nn nn) := ⟨_, _, rfl, rfl⟩
theorem EncodedLength.prefixCb (sub : Byte) : Statement (.prefixCb sub) := ⟨_, _, rfl, rfl⟩
theorem EncodedLength.call_Z_nn (nn : Word) : Statement (.call_Z_nn nn) := ⟨_, _, rfl, rfl⟩
theorem EncodedLength.call_nn (nn : Word) : Statement (.call_nn nn) := ⟨_, _, rfl, rfl⟩
theorem EncodedLength.adc_A_n (n : Byte) : Statement (.adc_A_n n) := ⟨_, _, rfl, rfl⟩
theorem EncodedLength.jp_NC_nn (nn : Word) : Statement (.jp_NC_nn nn) := ⟨_, _, rfl, rfl⟩
theorem EncodedLength.call_NC_nn (nn : Word) : Statement (.call_NC_nn nn) := ⟨_, _, rfl, rfl⟩
theorem EncodedLength.sub_n (n : Byte) : Statement (.sub_n n) := ⟨_, _, rfl, rfl⟩
theorem EncodedLength.jp_C_nn (nn : Word) : Statement (.jp_C_nn nn) := ⟨_, _, rfl, rfl⟩
theorem EncodedLength.call_C_nn (nn : Word) : Statement (.call_C_nn nn) := ⟨_, _, rfl, rfl⟩
theorem EncodedLength.sbc_A_n (n : Byte) : Statement (.sbc_A_n n) := ⟨_, _, rfl, rfl⟩
theorem EncodedLength.ldh_mn_A (n : Byte) : Statement (.ldh_mn_A n) := ⟨_, _, rfl, rfl⟩
theorem EncodedLength.and_n (n : Byte) : Statement (.and_n n) := ⟨_, _, rfl, rfl⟩
theorem EncodedLength.add_SP_e (e : Byte) : Statement (.add_SP_e e) := ⟨_, _, rfl, rfl⟩
theorem EncodedLength.ld_mnn_A (nn : Word) : Statement (.ld_mnn_A nn) := ⟨_, _, rfl, rfl⟩
theorem EncodedLength.xor_n (n : Byte) : Statement (.xor_n n) := ⟨_, _, rfl, rfl⟩
theorem EncodedLength.ldh_A_mn (n : Byte) : Statement (.ldh_A_mn n) := ⟨_, _, rfl, rfl⟩
theorem EncodedLength.or_n (n : Byte) : Statement (.or_n n) := ⟨_, _, rfl, rfl⟩
theorem EncodedLength.ld_HL_SPe (e : Byte) : Statement (.ld_HL_SPe e) := ⟨_, _, rfl, rfl⟩
theorem EncodedLength.ld_A_mnn (nn : Word) : Statement (.ld_A_mnn nn) := ⟨_, _, rfl, rfl⟩
theorem EncodedLength.cp_n (n : Byte) : Statement (.cp_n n) := ⟨_, _, rfl, rfl⟩
theorem EncodedLength.nop : Statement .nop := ⟨_, _, rfl, rfl⟩
theorem EncodedLength.ld_mBC_A : Statement .ld_mBC_A := ⟨_, _, rfl, rfl⟩
theorem EncodedLength.inc_BC : Statement .inc_BC := ⟨_, _, rfl, rfl⟩
theorem EncodedLength.inc_B : Statement .inc_B := ⟨_, _, rfl, rfl⟩
theorem EncodedLength.dec_B : Statement .dec_B := ⟨_, _, rfl, rfl⟩
theorem EncodedLength.rlca : Statement .rlca := ⟨_, _, rfl, rfl⟩
theorem EncodedLength.add_HL_BC : Statement .add_HL_BC := ⟨_, _, rfl, rfl⟩
theorem EncodedLength.ld_A_mBC : Statement .ld_A_mBC := ⟨_, _, rfl, rfl⟩
theorem EncodedLength.dec_BC : Statement .dec_BC := ⟨_, _, rfl, rfl⟩
theorem EncodedLength.inc_C : Statement .inc_C := ⟨_, _, rfl, rfl⟩
theorem EncodedLength.dec_C : Statement .dec_C := ⟨_, _, rfl, rfl⟩
theorem EncodedLength.rrca : Statement .rrca := ⟨_, _, rfl, rfl⟩
theorem EncodedLength.stop : Statement .stop := ⟨_, _, rfl, rfl⟩
theorem EncodedLength.ld_mDE_A : Statement .ld_mDE_A := ⟨_, _, rfl, rfl⟩
theorem EncodedLength.inc_DE : Statement .inc_DE := ⟨_, _, rfl, rfl⟩
theorem EncodedLength.inc_D : Statement .inc_D := ⟨_, _, rfl, rfl⟩
theorem EncodedLength.dec_D : Statement .dec_D := ⟨_, _, rfl, rfl⟩
theorem EncodedLength.rla : Statement .rla := ⟨_, _, rfl, rfl⟩
theorem EncodedLength.add_HL_DE : Statement .add_HL_DE := ⟨_, _, rfl, rfl⟩
theorem EncodedLength.ld_A_mDE : Statement .ld_A_mDE := ⟨_, _, rfl, rfl⟩
theorem EncodedLength.dec_DE : Statement .dec_DE := ⟨_, _, rfl, rfl⟩
theorem EncodedLength.inc_E : Statement .inc_E := ⟨_, _, rfl, rfl⟩
theorem EncodedLength.dec_E : Statement .dec_E := ⟨_, _, rfl, rfl⟩
theorem EncodedLength.rra : Statement .rra := ⟨_, _, rfl, rfl⟩
theorem EncodedLength.ld_mHLi_A : Statement .ld_mHLi_A := ⟨_, _, rfl, rfl⟩
theorem EncodedLength.inc_HL : Statement .inc_HL := ⟨_, _, rfl, rfl⟩
theorem EncodedLength.inc_H : Statement .inc_H := ⟨_, _, rfl, rfl⟩
theorem EncodedLength.dec_H : Statement .dec_H := ⟨_, _, rfl, rfl⟩
theorem EncodedLength.daa : Statement .daa := ⟨_, _, rfl, rfl⟩
theorem EncodedLength.add_HL_HL : Statement .add_HL_HL := ⟨_, _, rfl, rfl⟩
theorem EncodedLength.ld_A_mHLi : Statement .ld_A_mHLi := ⟨_, _, rfl, rfl⟩
theorem EncodedLength.dec_HL : Statement .dec_HL := ⟨_, _, rfl, rfl⟩
theorem EncodedLength.inc_L : Statement .inc_L := ⟨_, _, rfl, rfl⟩
theorem EncodedLength.dec_L : Statement .dec_L := ⟨_, _, rfl, rfl⟩
theorem EncodedLength.cpl : Statement .cpl := ⟨_, _, rfl, rfl⟩
theorem EncodedLength.ld_mHLd_A : Statement .ld_mHLd_A := ⟨_, _, rfl, rfl⟩
theorem EncodedLength.inc_SP : Statement .inc_SP := ⟨_, _, rfl, rfl⟩
theorem EncodedLength.inc_mHL : Statement .inc_mHL := ⟨_, _, rfl, rfl⟩
theorem EncodedLength.dec_mHL : Statement .dec_mHL := ⟨_, _, rfl, rfl⟩
theorem EncodedLength.scf : Statement .scf := ⟨_, _, rfl, rfl⟩
theorem EncodedLength.add_HL_SP : Statement .add_HL_SP := ⟨_, _, rfl, rfl⟩
theorem EncodedLength.ld_A_mHLd : Statement .ld_A_mHLd := ⟨_, _, rfl, rfl⟩
theorem EncodedLength.dec_SP : Statement .dec_SP := ⟨_, _, rfl, rfl⟩
theorem EncodedLength.inc_A : Statement .inc_A := ⟨_, _, rfl, rfl⟩
theorem EncodedLength.dec_A : Statement .dec_A := ⟨_, _, rfl, rfl⟩
theorem EncodedLength.ccf : Statement .ccf := ⟨_, _, rfl, rfl⟩
theorem EncodedLength.ld_B_B : Statement .ld_B_B := ⟨_, _, rfl, rfl⟩
theorem EncodedLength.ld_B_C : Statement .ld_B_C := ⟨_, _, rfl, rfl⟩
theorem EncodedLength.ld_B_D : Statement .ld_B_D := ⟨_, _, rfl, rfl⟩
theorem EncodedLength.ld_B_E : Statement .ld_B_E := ⟨_, _, rfl, rfl⟩
theorem EncodedLength.ld_B_H : Statement .ld_B_H := ⟨_, _, rfl, rfl⟩
theorem EncodedLength.ld_B_L : Statement .ld_B_L := ⟨_, _, rfl, rfl⟩
theorem EncodedLength.ld_B_mHL : Statement .ld_B_mHL := ⟨_, _, rfl, rfl⟩
theorem EncodedLength.ld_B_A : Statement .ld_B_A := ⟨_, _, rfl, rfl⟩
theorem EncodedLength.ld_C_B : Statement .ld_C_B := ⟨_, _, rfl, rfl⟩
theorem EncodedLength.ld_C_C : Statement .ld_C_C := ⟨_, _, rfl, rfl⟩
theorem EncodedLength.ld_C_D : Statement .ld_C_D := ⟨_, _, rfl, rfl⟩
theorem EncodedLength.ld_C_E : Statement .ld_C_E := ⟨_, _, rfl, rfl⟩
theorem EncodedLength.ld_C_H : Statement .ld_C_H := ⟨_, _, rfl, rfl⟩
theorem EncodedLength.ld_C_L : Statement .ld_C_L := ⟨_, _, rfl, rfl⟩
theorem EncodedLength.ld_C_mHL : Statement .ld_C_mHL := ⟨_, _, rfl, rfl⟩
theorem EncodedLength.ld_C_A : Statement .ld_C_A := ⟨_, _, rfl, rfl⟩
theorem EncodedLength.ld_D_B : Statement .ld_D_B := ⟨_, _, rfl, rfl⟩
theorem EncodedLength.ld_D_C : Statement .ld_D_C := ⟨_, _, rfl, rfl⟩
theorem EncodedLength.ld_D_D : Statement .ld_D_D := ⟨_, _, rfl, rfl⟩
theorem EncodedLength.ld_D_E : Statement .ld_D_E := ⟨_, _, rfl, rfl⟩
theorem EncodedLength.ld_D_H : Statement .ld_D_H := ⟨_, _, rfl, rfl⟩
theorem EncodedLength.ld_D_L : Statement .ld_D_L := ⟨_, _, rfl, rfl⟩
theorem EncodedLength.ld_D_mHL : Statement .ld_D_mHL := ⟨_, _, rfl, rfl⟩
theorem EncodedLength.ld_D_A : Statement .ld_D_A := ⟨_, _, rfl, rfl⟩
theorem EncodedLength.ld_E_B : Statement .ld_E_B := ⟨_, _, rfl, rfl⟩
theorem EncodedLength.ld_E_C : Statement .ld_E_C := ⟨_, _, rfl, rfl⟩
theorem EncodedLength.ld_E_D : Statement .ld_E_D := ⟨_, _, rfl, rfl⟩
theorem EncodedLength.ld_E_E : Statement .ld_E_E := ⟨_, _, rfl, rfl⟩
theorem EncodedLength.ld_E_H : Statement .ld_E_H := ⟨_, _, rfl, rfl⟩
theorem EncodedLength.ld_E_L : Statement .ld_E_L := ⟨_, _, rfl, rfl⟩
theorem EncodedLength.ld_E_mHL : Statement .ld_E_mHL := ⟨_, _, rfl, rfl⟩
theorem EncodedLength.ld_E_A : Statement .ld_E_A := ⟨_, _, rfl, rfl⟩
theorem EncodedLength.ld_H_B : Statement .ld_H_B := ⟨_, _, rfl, rfl⟩
theorem EncodedLength.ld_H_C : Statement .ld_H_C := ⟨_, _, rfl, rfl⟩
theorem EncodedLength.ld_H_D : Statement .ld_H_D := ⟨_, _, rfl, rfl⟩
theorem EncodedLength.ld_H_E : Statement .ld_H_E := ⟨_, _, rfl, rfl⟩
theorem EncodedLength.ld_H_H : Statement .ld_H_H := ⟨_, _, rfl, rfl⟩
theorem EncodedLength.ld_H_L : Statement .ld_H_L := ⟨_, _, rfl, rfl⟩
theorem EncodedLength.ld_H_mHL : Statement .ld_H_mHL := ⟨_, _, rfl, rfl⟩
theorem EncodedLength.ld_H_A : Statement .ld_H_A := ⟨_, _, rfl, rfl⟩
theorem EncodedLength.ld_L_B : Statement .ld_L_B := ⟨_, _, rfl, rfl⟩
theorem EncodedLength.ld_L_C : Statement .ld_L_C := ⟨_, _, rfl, rfl⟩
theorem EncodedLength.ld_L_D : Statement .ld_L_D := ⟨_, _, rfl, rfl⟩
theorem EncodedLength.ld_L_E : Statement .ld_L_E := ⟨_, _, rfl, rfl⟩
theorem EncodedLength.ld_L_H : Statement .ld_L_H := ⟨_, _, rfl, rfl⟩
theorem EncodedLength.ld_L_L : Statement .ld_L_L := ⟨_, _, rfl, rfl⟩
theorem EncodedLength.ld_L_mHL : Statement .ld_L_mHL := ⟨_, _, rfl, rfl⟩
theorem EncodedLength.ld_L_A : Statement .ld_L_A := ⟨_, _, rfl, rfl⟩
theorem EncodedLength.ld_mHL_B : Statement .ld_mHL_B := ⟨_, _, rfl, rfl⟩
theorem EncodedLength.ld_mHL_C : Statement .ld_mHL_C := ⟨_, _, rfl, rfl⟩
theorem EncodedLength.ld_mHL_D : Statement .ld_mHL_D := ⟨_, _, rfl, rfl⟩
theorem EncodedLength.ld_mHL_E : Statement .ld_mHL_E := ⟨_, _, rfl, rfl⟩
theorem EncodedLength.ld_mHL_H : Statement .ld_mHL_H := ⟨_, _, rfl, rfl⟩
theorem EncodedLength.ld_mHL_L : Statement .ld_mHL_L := ⟨_, _, rfl, rfl⟩
theorem EncodedLength.halt : Statement .halt := ⟨_, _, rfl, rfl⟩
theorem EncodedLength.ld_mHL_A : Statement .ld_mHL_A := ⟨_, _, rfl, rfl⟩
theorem EncodedLength.ld_A_B : Statement .ld_A_B := ⟨_, _, rfl, rfl⟩
theorem EncodedLength.ld_A_C : Statement .ld_A_C := ⟨_, _, rfl, rfl⟩
theorem EncodedLength.ld_A_D : Statement .ld_A_D := ⟨_, _, rfl, rfl⟩
theorem EncodedLength.ld_A_E : Statement .ld_A_E := ⟨_, _, rfl, rfl⟩
theorem EncodedLength.ld_A_H : Statement .ld_A_H := ⟨_, _, rfl, rfl⟩
theorem EncodedLength.ld_A_L : Statement .ld_A_L := ⟨_, _, rfl, rfl⟩
theorem EncodedLength.ld_A_mHL : Statement .ld_A_mHL := ⟨_, _, rfl, rfl⟩
theorem EncodedLength.ld_A_A : Statement .ld_A_A := ⟨_, _, rfl, rfl⟩
theorem EncodedLength.add_A_B : Statement .add_A_B := ⟨_, _, rfl, rfl⟩
theorem EncodedLength.add_A_C : Statement .add_A_C := ⟨_, _, rfl, rfl⟩
theorem EncodedLength.add_A_D : Statement .add_A_D := ⟨_, _, rfl, rfl⟩
theorem EncodedLength.add_A_E : Statement .add_A_E := ⟨_, _, rfl, rfl⟩
theorem EncodedLength.add_A_H : Statement .add_A_H := ⟨_, _, rfl, rfl⟩
theorem EncodedLength.add_A_L : Statement .add_A_L := ⟨_, _, rfl, rfl⟩
theorem EncodedLength.add_A_mHL : Statement .add_A_mHL := ⟨_, _, rfl, rfl⟩
theorem EncodedLength.add_A_A : Statement .add_A_A := ⟨_, _, rfl, rfl⟩
theorem EncodedLength.adc_A_B : Statement .adc_A_B := ⟨_, _, rfl, rfl⟩
theorem EncodedLength.adc_A_C : Statement .adc_A_C := ⟨_, _, rfl, rfl⟩
theorem EncodedLength.adc_A_D : Statement .adc_A_D := ⟨_, _, rfl, rfl⟩
theorem EncodedLength.adc_A_E : Statement .adc_A_E := ⟨_, _, rfl, rfl⟩
theorem EncodedLength.adc_A_H : Statement .adc_A_H := ⟨_, _, rfl, rfl⟩
theorem EncodedLength.adc_A_L : Statement .adc_A_L := ⟨_, _, rfl, rfl⟩
theorem EncodedLength.adc_A_mHL : Statement .adc_A_mHL := ⟨_, _, rfl, rfl⟩
theorem EncodedLength.adc_A_A : Statement .adc_A_A := ⟨_, _, rfl, rfl⟩
theorem EncodedLength.sub_B : Statement .sub_B := ⟨_, _, rfl, rfl⟩
theorem EncodedLength.sub_C : Statement .sub_C := ⟨_, _, rfl, rfl⟩
theorem EncodedLength.sub_D : Statement .sub_D := ⟨_, _, rfl, rfl⟩
theorem EncodedLength.sub_E : Statement .sub_E := ⟨_, _, rfl, rfl⟩
theorem EncodedLength.sub_H : Statement .sub_H := ⟨_, _, rfl, rfl⟩
theorem EncodedLength.sub_L : Statement .sub_L := ⟨_, _, rfl, rfl⟩
theorem EncodedLength.sub_mHL : Statement .sub_mHL := ⟨_, _, rfl, rfl⟩
theorem EncodedLength.sub_A : Statement .sub_A := ⟨_, _, rfl, rfl⟩
theorem EncodedLength.sbc_A_B : Statement .sbc_A_B := ⟨_, _, rfl, rfl⟩
theorem EncodedLength.sbc_A_C : Statement .sbc_A_C := ⟨_, _, rfl, rfl⟩
theorem EncodedLength.sbc_A_D : Statement .sbc_A_D := ⟨_, _, rfl, rfl⟩
theorem EncodedLength.sbc_A_E : Statement .sbc_A_E := ⟨_, _, rfl, rfl⟩
theorem EncodedLength.sbc_A_H : Statement .sbc_A_H := ⟨_, _, rfl, rfl⟩
theorem EncodedLength.sbc_A_L : Statement .sbc_A_L := ⟨_, _, rfl, rfl⟩
theorem EncodedLength.sbc_A_mHL : Statement .sbc_A_mHL := ⟨_, _, rfl, rfl⟩
theorem EncodedLength.sbc_A_A : Statement .sbc_A_A := ⟨_, _, rfl, rfl⟩
theorem EncodedLength.and_B : Statement .and_B := ⟨_, _, rfl, rfl⟩
theorem EncodedLength.and_C : Statement .and_C := ⟨_, _, rfl, rfl⟩
theorem EncodedLength.and_D : Statement .and_D := ⟨_, _, rfl, rfl⟩
theorem EncodedLength.and_E : Statement .and_E := ⟨_, _, rfl, rfl⟩
theorem EncodedLength.and_H : Statement .and_H := ⟨_, _, rfl, rfl⟩
theorem EncodedLength.and_L : Statement .and_L := ⟨_, _, rfl, rfl⟩
theorem EncodedLength.and_mHL : Statement .and_mHL := ⟨_, _, rfl, rfl⟩
theorem EncodedLength.and_A : Statement .and_A := ⟨_, _, rfl, rfl⟩
theorem EncodedLength.xor_B : Statement .xor_B := ⟨_, _, rfl, rfl⟩
theorem EncodedLength.xor_C : Statement .xor_C := ⟨_, _, rfl, rfl⟩
theorem EncodedLength.xor_D : Statement .xor_D := ⟨_, _, rfl, rfl⟩
theorem EncodedLength.xor_E : Statement .xor_E := ⟨_, _, rfl, rfl⟩
theorem EncodedLength.xor_H : Statement .xor_H := ⟨_, _, rfl, rfl⟩
theorem EncodedLength.xor_L : Statement .xor_L := ⟨_, _, rfl, rfl⟩
theorem EncodedLength.xor_mHL : Statement .xor_mHL := ⟨_, _, rfl, rfl⟩
theorem EncodedLength.xor_A : Statement .xor_A := ⟨_, _, rfl, rfl⟩
theorem EncodedLength.or_B : Statement .or_B := ⟨_, _, rfl, rfl⟩
theorem EncodedLength.or_C : Statement .or_C := ⟨_, _, rfl, rfl⟩
theorem EncodedLength.or_D : Statement .or_D := ⟨_, _, rfl, rfl⟩
theorem EncodedLength.or_E : Statement .or_E := ⟨_, _, rfl, rfl⟩
theorem EncodedLength.or_H : Statement .or_H := ⟨_, _, rfl, rfl⟩
theorem EncodedLength.or_L : Statement .or_L := ⟨_, _, rfl, rfl⟩
theorem EncodedLength.or_mHL : Statement .or_mHL := ⟨_, _, rfl, rfl⟩
theorem EncodedLength.or_A : Statement .or_A := ⟨_, _, rfl, rfl⟩
theorem EncodedLength.cp_B : Statement .cp_B := ⟨_, _, rfl, rfl⟩
theorem EncodedLength.cp_C : Statement .cp_C := ⟨_, _, rfl, rfl⟩
theorem EncodedLength.cp_D : Statement .cp_D := ⟨_, _, rfl, rfl⟩
theorem EncodedLength.cp_E : Statement .cp_E := ⟨_, _, rfl, rfl⟩
theorem EncodedLength.cp_H : Statement .cp_H := ⟨_, _, rfl, rfl⟩
theorem EncodedLength.cp_L : Statement .cp_L := ⟨_, _, rfl, rfl⟩
theorem EncodedLength.cp_mHL : Statement .cp_mHL := ⟨_, _, rfl, rfl⟩
theorem EncodedLength.cp_A : Statement .cp_A := ⟨_, _, rfl, rfl⟩
theorem EncodedLength.ret_NZ : Statement .ret_NZ := ⟨_, _, rfl, rfl⟩
theorem EncodedLength.pop_BC : Statement .pop_BC := ⟨_, _, rfl, rfl⟩
theorem EncodedLength.push_BC : Statement .push_BC := ⟨_, _, rfl, rfl⟩
theorem EncodedLength.rst_00H : Statement .rst_00H := ⟨_, _, rfl, rfl⟩
theorem EncodedLength.ret_Z : Statement .ret_Z := ⟨_, _, rfl, rfl⟩
theorem EncodedLength.ret : Statement .ret := ⟨_, _, rfl, rfl⟩
theorem EncodedLength.rst_08H : Statement .rst_08H := ⟨_, _, rfl, rfl⟩
theorem EncodedLength.ret_NC : Statement .ret_NC := ⟨_, _, rfl, rfl⟩
theorem EncodedLength.pop_DE : Statement .pop_DE := ⟨_, _, rfl, rfl⟩
theorem EncodedLength.noInstruction_D3 : Statement .noInstruction_D3 := ⟨_, _, rfl, rfl⟩
theorem EncodedLength.push_DE : Statement .push_DE := ⟨_, _, rfl, rfl⟩
theorem EncodedLength.rst_10H : Statement .rst_10H := ⟨_, _, rfl, rfl⟩
theorem EncodedLength.ret_C : Statement .ret_C := ⟨_, _, rfl, rfl⟩
theorem EncodedLength.reti : Statement .reti := ⟨_, _, rfl, rfl⟩
theorem EncodedLength.noInstruction_DB : Statement .noInstruction_DB := ⟨_, _, rfl, rfl⟩
theorem EncodedLength.noInstruction_DD : Statement .noInstruction_DD := ⟨_, _, rfl, rfl⟩
theorem EncodedLength.rst_18H : Statement .rst_18H := ⟨_, _, rfl, rfl⟩
theorem EncodedLength.pop_HL : Statement .pop_HL := ⟨_, _, rfl, rfl⟩
theorem EncodedLength.ld_mC_A : Statement .ld_mC_A := ⟨_, _, rfl, rfl⟩
theorem EncodedLength.noInstruction_E3 : Statement .noInstruction_E3 := ⟨_, _, rfl, rfl⟩
theorem EncodedLength.noInstruction_E4 : Statement .noInstruction_E4 := ⟨_, _, rfl, rfl⟩
theorem EncodedLength.push_HL : Statement .push_HL := ⟨_, _, rfl, rfl⟩
theorem EncodedLength.rst_20H : Statement .rst_20H := ⟨_, _, rfl, rfl⟩
theorem EncodedLength.jp_HL : Statement .jp_HL := ⟨_, _, rfl, rfl⟩
theorem EncodedLength.noInstruction_EB : Statement .noInstruction_EB := ⟨_, _, rfl, rfl⟩
theorem EncodedLength.noInstruction_EC : Statement .noInstruction_EC := ⟨_, _, rfl, rfl⟩
theorem EncodedLength.noInstruction_ED : Statement .noInstruction_ED := ⟨_, _, rfl, rfl⟩
theorem EncodedLength.rst_28H : Statement .rst_28H := ⟨_, _, rfl, rfl⟩
theorem EncodedLength.pop_AF : Statement .pop_AF := ⟨_, _, rfl, rfl⟩
theorem EncodedLength.ld_A_mC : Statement .ld_A_mC := ⟨_, _, rfl, rfl⟩
theorem EncodedLength.di : Statement .di := ⟨_, _, rfl, rfl⟩
theorem EncodedLength.noInstruction_F4 : Statement .noInstruction_F4 := ⟨_, _, rfl, rfl⟩
theorem EncodedLength.push_AF : Statement .push_AF := ⟨_, _, rfl, rfl⟩
theorem EncodedLength.rst_30H : Statement .rst_30H := ⟨_, _, rfl, rfl⟩
theorem EncodedLength.ld_SP_HL : Statement .ld_SP_HL := ⟨_, _, rfl, rfl⟩
theorem EncodedLength.ei : Statement .ei := ⟨_, _, rfl, rfl⟩
theorem EncodedLength.noInstruction_FC : Statement .noInstruction_FC := ⟨_, _, rfl, rfl⟩
theorem EncodedLength.noInstruction_FD : Statement .noInstruction_FD := ⟨_, _, rfl, rfl⟩
theorem EncodedLength.rst_38H : Statement .rst_38H := ⟨_, _, rfl, rfl⟩
theorem EncodedLength.rlc_B : Statement .rlc_B := ⟨_, _, rfl, rfl⟩
theorem EncodedLength.rlc_C : Statement .rlc_C := ⟨_, _, rfl, rfl⟩
theorem EncodedLength.rlc_D : Statement .rlc_D := ⟨_, _, rfl, rfl⟩
theorem EncodedLength.rlc_E : Statement .rlc_E := ⟨_, _, rfl, rfl⟩
theorem EncodedLength.rlc_H : Statement .rlc_H := ⟨_, _, rfl, rfl⟩
theorem EncodedLength.rlc_L : Statement .rlc_L := ⟨_, _, rfl, rfl⟩
theorem EncodedLength.rlc_mHL : Statement .rlc_mHL := ⟨_, _, rfl, rfl⟩
theorem EncodedLength.rlc_A : Statement .rlc_A := ⟨_, _, rfl, rfl⟩
theorem EncodedLength.rrc_B : Statement .rrc_B := ⟨_, _, rfl, rfl⟩
theorem EncodedLength.rrc_C : Statement .rrc_C := ⟨_, _, rfl, rfl⟩
theorem EncodedLength.rrc_D : Statement .rrc_D := ⟨_, _, rfl, rfl⟩
theorem EncodedLength.rrc_E : Statement .rrc_E := ⟨_, _, rfl, rfl⟩
theorem EncodedLength.rrc_H : Statement .rrc_H := ⟨_, _, rfl, rfl⟩
theorem EncodedLength.rrc_L : Statement .rrc_L := ⟨_, _, rfl, rfl⟩
theorem EncodedLength.rrc_mHL : Statement .rrc_mHL := ⟨_, _, rfl, rfl⟩
theorem EncodedLength.rrc_A : Statement .rrc_A := ⟨_, _, rfl, rfl⟩
theorem EncodedLength.rl_B : Statement .rl_B := ⟨_, _, rfl, rfl⟩
theorem EncodedLength.rl_C : Statement .rl_C := ⟨_, _, rfl, rfl⟩
theorem EncodedLength.rl_D : Statement .rl_D := ⟨_, _, rfl, rfl⟩
theorem EncodedLength.rl_E : Statement .rl_E := ⟨_, _, rfl, rfl⟩
theorem EncodedLength.rl_H : Statement .rl_H := ⟨_, _, rfl, rfl⟩
theorem EncodedLength.rl_L : Statement .rl_L := ⟨_, _, rfl, rfl⟩
theorem EncodedLength.rl_mHL : Statement .rl_mHL := ⟨_, _, rfl, rfl⟩
theorem EncodedLength.rl_A : Statement .rl_A := ⟨_, _, rfl, rfl⟩
theorem EncodedLength.rr_B : Statement .rr_B := ⟨_, _, rfl, rfl⟩
theorem EncodedLength.rr_C : Statement .rr_C := ⟨_, _, rfl, rfl⟩
theorem EncodedLength.rr_D : Statement .rr_D := ⟨_, _, rfl, rfl⟩
theorem EncodedLength.rr_E : Statement .rr_E := ⟨_, _, rfl, rfl⟩
theorem EncodedLength.rr_H : Statement .rr_H := ⟨_, _, rfl, rfl⟩
theorem EncodedLength.rr_L : Statement .rr_L := ⟨_, _, rfl, rfl⟩
theorem EncodedLength.rr_mHL : Statement .rr_mHL := ⟨_, _, rfl, rfl⟩
theorem EncodedLength.rr_A : Statement .rr_A := ⟨_, _, rfl, rfl⟩
theorem EncodedLength.sla_B : Statement .sla_B := ⟨_, _, rfl, rfl⟩
theorem EncodedLength.sla_C : Statement .sla_C := ⟨_, _, rfl, rfl⟩
theorem EncodedLength.sla_D : Statement .sla_D := ⟨_, _, rfl, rfl⟩
theorem EncodedLength.sla_E : Statement .sla_E := ⟨_, _, rfl, rfl⟩
theorem EncodedLength.sla_H : Statement .sla_H := ⟨_, _, rfl, rfl⟩
theorem EncodedLength.sla_L : Statement .sla_L := ⟨_, _, rfl, rfl⟩
theorem EncodedLength.sla_mHL : Statement .sla_mHL := ⟨_, _, rfl, rfl⟩
theorem EncodedLength.sla_A : Statement .sla_A := ⟨_, _, rfl, rfl⟩
theorem EncodedLength.sra_B : Statement .sra_B := ⟨_, _, rfl, rfl⟩
theorem EncodedLength.sra_C : Statement .sra_C := ⟨_, _, rfl, rfl⟩
theorem EncodedLength.sra_D : Statement .sra_D := ⟨_, _, rfl, rfl⟩
theorem EncodedLength.sra_E : Statement .sra_E := ⟨_, _, rfl, rfl⟩
theorem EncodedLength.sra_H : Statement .sra_H := ⟨_, _, rfl, rfl⟩
theorem EncodedLength.sra_L : Statement .sra_L := ⟨_, _, rfl, rfl⟩
theorem EncodedLength.sra_mHL : Statement .sra_mHL := ⟨_, _, rfl, rfl⟩
theorem EncodedLength.sra_A : Statement .sra_A := ⟨_, _, rfl, rfl⟩
theorem EncodedLength.swap_B : Statement .swap_B := ⟨_, _, rfl, rfl⟩
theorem EncodedLength.swap_C : Statement .swap_C := ⟨_, _, rfl, rfl⟩
theorem EncodedLength.swap_D : Statement .swap_D := ⟨_, _, rfl, rfl⟩
theorem EncodedLength.swap_E : Statement .swap_E := ⟨_, _, rfl, rfl⟩
theorem EncodedLength.swap_H : Statement .swap_H := ⟨_, _, rfl, rfl⟩
theorem EncodedLength.swap_L : Statement .swap_L := ⟨_, _, rfl, rfl⟩
theorem EncodedLength.swap_mHL : Statement .swap_mHL := ⟨_, _, rfl, rfl⟩
theorem EncodedLength.swap_A : Statement .swap_A := ⟨_, _, rfl, rfl⟩
theorem EncodedLength.srl_B : Statement .srl_B := ⟨_, _, rfl, rfl⟩
theorem EncodedLength.srl_C : Statement .srl_C := ⟨_, _, rfl, rfl⟩
theorem EncodedLength.srl_D : Statement .srl_D := ⟨_, _, rfl, rfl⟩
theorem EncodedLength.srl_E : Statement .srl_E := ⟨_, _, rfl, rfl⟩
theorem EncodedLength.srl_H : Statement .srl_H := ⟨_, _, rfl, rfl⟩
theorem EncodedLength.srl_L : Statement .srl_L := ⟨_, _, rfl, rfl⟩
theorem EncodedLength.srl_mHL : Statement .srl_mHL := ⟨_, _, rfl, rfl⟩
theorem EncodedLength.srl_A : Statement .srl_A := ⟨_, _, rfl, rfl⟩
theorem EncodedLength.bit_0_B : Statement .bit_0_B := ⟨_, _, rfl, rfl⟩
theorem EncodedLength.bit_0_C : Statement .bit_0_C := ⟨_, _, rfl, rfl⟩
theorem EncodedLength.bit_0_D : Statement .bit_0_D := ⟨_, _, rfl, rfl⟩
theorem EncodedLength.bit_0_E : Statement .bit_0_E := ⟨_, _, rfl, rfl⟩
theorem EncodedLength.bit_0_H : Statement .bit_0_H := ⟨_, _, rfl, rfl⟩
theorem EncodedLength.bit_0_L : Statement .bit_0_L := ⟨_, _, rfl, rfl⟩
theorem EncodedLength.bit_0_mHL : Statement .bit_0_mHL := ⟨_, _, rfl, rfl⟩
theorem EncodedLength.bit_0_A : Statement .bit_0_A := ⟨_, _, rfl, rfl⟩
theorem EncodedLength.bit_1_B : Statement .bit_1_B := ⟨_, _, rfl, rfl⟩
theorem EncodedLength.bit_1_C : Statement .bit_1_C := ⟨_, _, rfl, rfl⟩
theorem EncodedLength.bit_1_D : Statement .bit_1_D := ⟨_, _, rfl, rfl⟩
theorem EncodedLength.bit_1_E : Statement .bit_1_E := ⟨_, _, rfl, rfl⟩
theorem EncodedLength.bit_1_H : Statement .bit_1_H := ⟨_, _, rfl, rfl⟩
theorem EncodedLength.bit_1_L : Statement .bit_1_L := ⟨_, _, rfl, rfl⟩
theorem EncodedLength.bit_1_mHL : Statement .bit_1_mHL := ⟨_, _, rfl, rfl⟩
theorem EncodedLength.bit_1_A : Statement .bit_1_A := ⟨_, _, rfl, rfl⟩
theorem EncodedLength.bit_2_B : Statement .bit_2_B := ⟨_, _, rfl, rfl⟩
theorem EncodedLength.bit_2_C : Statement .bit_2_C := ⟨_, _, rfl, rfl⟩
theorem EncodedLength.bit_2_D : Statement .bit_2_D := ⟨_, _, rfl, rfl⟩
theorem EncodedLength.bit_2_E : Statement .bit_2_E := ⟨_, _, rfl, rfl⟩
theorem EncodedLength.bit_2_H : Statement .bit_2_H := ⟨_, _, rfl, rfl⟩
theorem EncodedLength.bit_2_L : Statement .bit_2_L := ⟨_, _, rfl, rfl⟩
theorem EncodedLength.bit_2_mHL : Statement .bit_2_mHL := ⟨_, _, rfl, rfl⟩
theorem EncodedLength.bit_2_A : Statement .bit_2_A := ⟨_, _, rfl, rfl⟩
theorem EncodedLength.bit_3_B : Statement .bit_3_B := ⟨_, _, rfl, rfl⟩
theorem EncodedLength.bit_3_C : Statement .bit_3_C := ⟨_, _, rfl, rfl⟩
theorem EncodedLength.bit_3_D : Statement .bit_3_D := ⟨_, _, rfl, rfl⟩
theorem EncodedLength.bit_3_E : Statement .bit_3_E := ⟨_, _, rfl, rfl⟩
theorem EncodedLength.bit_3_H : Statement .bit_3_H := ⟨_, _, rfl, rfl⟩
theorem EncodedLength.bit_3_L : Statement .bit_3_L := ⟨_, _, rfl, rfl⟩
theorem EncodedLength.bit_3_mHL : Statement .bit_3_mHL := ⟨_, _, rfl, rfl⟩
theorem EncodedLength.bit_3_A : Statement .bit_3_A := ⟨_, _, rfl, rfl⟩
theorem EncodedLength.bit_4_B : Statement .bit_4_B := ⟨_, _, rfl, rfl⟩
theorem EncodedLength.bit_4_C : Statement .bit_4_C := ⟨_, _, rfl, rfl⟩
theorem EncodedLength.bit_4_D : Statement .bit_4_D := ⟨_, _, rfl, rfl⟩
theorem EncodedLength.bit_4_E : Statement .bit_4_E := ⟨_, _, rfl, rfl⟩
theorem EncodedLength.bit_4_H : Statement .bit_4_H := ⟨_, _, rfl, rfl⟩
theorem EncodedLength.bit_4_L : Statement .bit_4_L := ⟨_, _, rfl, rfl⟩
theorem EncodedLength.bit_4_mHL : Statement .bit_4_mHL := ⟨_, _, rfl, rfl⟩
theorem EncodedLength.bit_4_A : Statement .bit_4_A := ⟨_, _, rfl, rfl⟩
theorem EncodedLength.bit_5_B : Statement .bit_5_B := ⟨_, _, rfl, rfl⟩
theorem EncodedLength.bit_5_C : Statement .bit_5_C := ⟨_, _, rfl, rfl⟩
theorem EncodedLength.bit_5_D : Statement .bit_5_D := ⟨_, _, rfl, rfl⟩
theorem EncodedLength.bit_5_E : Statement .bit_5_E := ⟨_, _, rfl, rfl⟩
theorem EncodedLength.bit_5_H : Statement .bit_5_H := ⟨_, _, rfl, rfl⟩
theorem EncodedLength.bit_5_L : Statement .bit_5_L := ⟨_, _, rfl, rfl⟩
theorem EncodedLength.bit_5_mHL : Statement .bit_5_mHL := ⟨_, _, rfl, rfl⟩
theorem EncodedLength.bit_5_A : Statement .bit_5_A := ⟨_, _, rfl, rfl⟩
theorem EncodedLength.bit_6_B : Statement .bit_6_B := ⟨_, _, rfl, rfl⟩
theorem EncodedLength.bit_6_C : Statement .bit_6_C := ⟨_, _, rfl, rfl⟩
theorem EncodedLength.bit_6_D : Statement .bit_6_D := ⟨_, _, rfl, rfl⟩
theorem EncodedLength.bit_6_E : Statement .bit_6_E := ⟨_, _, rfl, rfl⟩
theorem EncodedLength.bit_6_H : Statement .bit_6_H := ⟨_, _, rfl, rfl⟩
theorem EncodedLength.bit_6_L : Statement .bit_6_L := ⟨_, _, rfl, rfl⟩
theorem EncodedLength.bit_6_mHL : Statement .bit_6_mHL := ⟨_, _, rfl, rfl⟩
theorem EncodedLength.bit_6_A : Statement .bit_6_A := ⟨_, _, rfl, rfl⟩
theorem EncodedLength.bit_7_B : Statement .bit_7_B := ⟨_, _, rfl, rfl⟩
theorem EncodedLength.bit_7_C : Statement .bit_7_C := ⟨_, _, rfl, rfl⟩
theorem EncodedLength.bit_7_D : Statement .bit_7_D := ⟨_, _, rfl, rfl⟩
theorem EncodedLength.bit_7_E : Statement .bit_7_E := ⟨_, _, rfl, rfl⟩
theorem EncodedLength.bit_7_H : Statement .bit_7_H := ⟨_, _, rfl, rfl⟩
theorem EncodedLength.bit_7_L : Statement .bit_7_L := ⟨_, _, rfl, rfl⟩
theorem EncodedLength.bit_7_mHL : Statement .bit_7_mHL := ⟨_, _, rfl, rfl⟩
theorem EncodedLength.bit_7_A : Statement .bit_7_A := ⟨_, _, rfl, rfl⟩
theorem EncodedLength.res_0_B : Statement .res_0_B := ⟨_, _, rfl, rfl⟩
theorem EncodedLength.res_0_C : Statement .res_0_C := ⟨_, _, rfl, rfl⟩
theorem EncodedLength.res_0_D : Statement .res_0_D := ⟨_, _, rfl, rfl⟩
theorem EncodedLength.res_0_E : Statement .res_0_E := ⟨_, _, rfl, rfl⟩
theorem EncodedLength.res_0_H : Statement .res_0_H := ⟨_, _, rfl, rfl⟩
theorem EncodedLength.res_0_L : Statement .res_0_L := ⟨_, _, rfl, rfl⟩
theorem EncodedLength.res_0_mHL : Statement .res_0_mHL := ⟨_, _, rfl, rfl⟩
theorem EncodedLength.res_0_A : Statement .res_0_A := ⟨_, _, rfl, rfl⟩
theorem EncodedLength.res_1_B : Statement .res_1_B := ⟨_, _, rfl, rfl⟩
theorem EncodedLength.res_1_C : Statement .res_1_C := ⟨_, _, rfl, rfl⟩
theorem EncodedLength.res_1_D : Statement .res_1_D := ⟨_, _, rfl, rfl⟩
theorem EncodedLength.res_1_E : Statement .res_1_E := ⟨_, _, rfl, rfl⟩
theorem EncodedLength.res_1_H : Statement .res_1_H := ⟨_, _, rfl, rfl⟩
theorem EncodedLength.res_1_L : Statement .res_1_L := ⟨_, _, rfl, rfl⟩
theorem EncodedLength.res_1_mHL : Statement .res_1_mHL := ⟨_, _, rfl, rfl⟩
theorem EncodedLength.res_1_A : Statement .res_1_A := ⟨_, _, rfl, rfl⟩
theorem EncodedLength.res_2_B : Statement .res_2_B := ⟨_, _, rfl, rfl⟩
theorem EncodedLength.res_2_C : Statement .res_2_C := ⟨_, _, rfl, rfl⟩
theorem EncodedLength.res_2_D : Statement .res_2_D := ⟨_, _, rfl, rfl⟩
theorem EncodedLength.res_2_E : Statement .res_2_E := ⟨_, _, rfl, rfl⟩
theorem EncodedLength.res_2_H : Statement .res_2_H := ⟨_, _, rfl, rfl⟩
theorem EncodedLength.res_2_L : Statement .res_2_L := ⟨_, _, rfl, rfl⟩
theorem EncodedLength.res_2_mHL : Statement .res_2_mHL := ⟨_, _, rfl, rfl⟩
theorem EncodedLength.res_2_A : Statement .res_2_A := ⟨_, _, rfl, rfl⟩
theorem EncodedLength.res_3_B : Statement .res_3_B := ⟨_, _, rfl, rfl⟩
theorem EncodedLength.res_3_C : Statement .res_3_C := ⟨_, _, rfl, rfl⟩
theorem EncodedLength.res_3_D : Statement .res_3_D := ⟨_, _, rfl, rfl⟩
theorem EncodedLength.res_3_E : Statement .res_3_E := ⟨_, _, rfl, rfl⟩
theorem EncodedLength.res_3_H : Statement .res_3_H := ⟨_, _, rfl, rfl⟩
theorem EncodedLength.res_3_L : Statement .res_3_L := ⟨_, _, rfl, rfl⟩
theorem EncodedLength.res_3_mHL : Statement .res_3_mHL := ⟨_, _, rfl, rfl⟩
theorem EncodedLength.res_3_A : Statement .res_3_A := ⟨_, _, rfl, rfl⟩
theorem EncodedLength.res_4_B : Statement .res_4_B := ⟨_, _, rfl, rfl⟩
theorem EncodedLength.res_4_C : Statement .res_4_C := ⟨_, _, rfl, rfl⟩
theorem EncodedLength.res_4_D : Statement .res_4_D := ⟨_, _, rfl, rfl⟩
theorem EncodedLength.res_4_E : Statement .res_4_E := ⟨_, _, rfl, rfl⟩
theorem EncodedLength.res_4_H : Statement .res_4_H := ⟨_, _, rfl, rfl⟩
theorem EncodedLength.res_4_L : Statement .res_4_L := ⟨_, _, rfl, rfl⟩
theorem EncodedLength.res_4_mHL : Statement .res_4_mHL := ⟨_, _, rfl, rfl⟩
theorem EncodedLength.res_4_A : Statement .res_4_A := ⟨_, _, rfl, rfl⟩
theorem EncodedLength.res_5_B : Statement .res_5_B := ⟨_, _, rfl, rfl⟩
theorem EncodedLength.res_5_C : Statement .res_5_C := ⟨_, _, rfl, rfl⟩
theorem EncodedLength.res_5_D : Statement .res_5_D := ⟨_, _, rfl, rfl⟩
theorem EncodedLength.res_5_E : Statement .res_5_E := ⟨_, _, rfl, rfl⟩
theorem EncodedLength.res_5_H : Statement .res_5_H := ⟨_, _, rfl, rfl⟩
theorem EncodedLength.res_5_L : Statement .res_5_L := ⟨_, _, rfl, rfl⟩
theorem EncodedLength.res_5_mHL : Statement .res_5_mHL := ⟨_, _, rfl, rfl⟩
theorem EncodedLength.res_5_A : Statement .res_5_A := ⟨_, _, rfl, rfl⟩
theorem EncodedLength.res_6_B : Statement .res_6_B := ⟨_, _, rfl, rfl⟩
theorem EncodedLength.res_6_C : Statement .res_6_C := ⟨_, _, rfl, rfl⟩
theorem EncodedLength.res_6_D : Statement .res_6_D := ⟨_, _, rfl, rfl⟩
theorem EncodedLength.res_6_E : Statement .res_6_E := ⟨_, _, rfl, rfl⟩
theorem EncodedLength.res_6_H : Statement .res_6_H := ⟨_, _, rfl, rfl⟩
theorem EncodedLength.res_6_L : Statement .res_6_L := ⟨_, _, rfl, rfl⟩
theorem EncodedLength.res_6_mHL : Statement .res_6_mHL := ⟨_, _, rfl, rfl⟩
theorem EncodedLength.res_6_A : Statement .res_6_A := ⟨_, _, rfl, rfl⟩
theorem EncodedLength.res_7_B : Statement .res_7_B := ⟨_, _, rfl, rfl⟩
theorem EncodedLength.res_7_C : Statement .res_7_C := ⟨_, _, rfl, rfl⟩
theorem EncodedLength.res_7_D : Statement .res_7_D := ⟨_, _, rfl, rfl⟩
theorem EncodedLength.res_7_E : Statement .res_7_E := ⟨_, _, rfl, rfl⟩
theorem EncodedLength.res_7_H : Statement .res_7_H := ⟨_, _, rfl, rfl⟩
theorem EncodedLength.res_7_L : Statement .res_7_L := ⟨_, _, rfl, rfl⟩
theorem EncodedLength.res_7_mHL : Statement .res_7_mHL := ⟨_, _, rfl, rfl⟩
theorem EncodedLength.res_7_A : Statement .res_7_A := ⟨_, _, rfl, rfl⟩
theorem EncodedLength.set_0_B : Statement .set_0_B := ⟨_, _, rfl, rfl⟩
theorem EncodedLength.set_0_C : Statement .set_0_C := ⟨_, _, rfl, rfl⟩
theorem EncodedLength.set_0_D : Statement .set_0_D := ⟨_, _, rfl, rfl⟩
theorem EncodedLength.set_0_E : Statement .set_0_E := ⟨_, _, rfl, rfl⟩
theorem EncodedLength.set_0_H : Statement .set_0_H := ⟨_, _, rfl, rfl⟩
theorem EncodedLength.set_0_L : Statement .set_0_L := ⟨_, _, rfl, rfl⟩
theorem EncodedLength.set_0_mHL : Statement .set_0_mHL := ⟨_, _, rfl, rfl⟩
theorem EncodedLength.set_0_A : Statement .set_0_A := ⟨_, _, rfl, rfl⟩
theorem EncodedLength.set_1_B : Statement .set_1_B := ⟨_, _, rfl, rfl⟩
theorem EncodedLength.set_1_C : Statement .set_1_C := ⟨_, _, rfl, rfl⟩
theorem EncodedLength.set_1_D : Statement .set_1_D := ⟨_, _, rfl, rfl⟩
theorem EncodedLength.set_1_E : Statement .set_1_E := ⟨_, _, rfl, rfl⟩
theorem EncodedLength.set_1_H : Statement .set_1_H := ⟨_, _, rfl, rfl⟩
theorem EncodedLength.set_1_L : Statement .set_1_L := ⟨_, _, rfl, rfl⟩
theorem EncodedLength.set_1_mHL : Statement .set_1_mHL := ⟨_, _, rfl, rfl⟩
theorem EncodedLength.set_1_A : Statement .set_1_A := ⟨_, _, rfl, rfl⟩
theorem EncodedLength.set_2_B : Statement .set_2_B := ⟨_, _, rfl, rfl⟩
theorem EncodedLength.set_2_C : Statement .set_2_C := ⟨_, _, rfl, rfl⟩
theorem EncodedLength.set_2_D : Statement .set_2_D := ⟨_, _, rfl, rfl⟩
theorem EncodedLength.set_2_E : Statement .set_2_E := ⟨_, _, rfl, rfl⟩
theorem EncodedLength.set_2_H : Statement .set_2_H := ⟨_, _, rfl, rfl⟩
theorem EncodedLength.set_2_L : Statement .set_2_L := ⟨_, _, rfl, rfl⟩
theorem EncodedLength.set_2_mHL : Statement .set_2_mHL := ⟨_, _, rfl, rfl⟩
theorem EncodedLength.set_2_A : Statement .set_2_A := ⟨_, _, rfl, rfl⟩
theorem EncodedLength.set_3_B : Statement .set_3_B := ⟨_, _, rfl, rfl⟩
theorem EncodedLength.set_3_C : Statement .set_3_C := ⟨_, _, rfl, rfl⟩
theorem EncodedLength.set_3_D : Statement .set_3_D := ⟨_, _, rfl, rfl⟩
theorem EncodedLength.set_3_E : Statement .set_3_E := ⟨_, _, rfl, rfl⟩
theorem EncodedLength.set_3_H : Statement .set_3_H := ⟨_, _, rfl, rfl⟩
theorem EncodedLength.set_3_L : Statement .set_3_L := ⟨_, _, rfl, rfl⟩
theorem EncodedLength.set_3_mHL : Statement .set_3_mHL := ⟨_, _, rfl, rfl⟩
theorem EncodedLength.set_3_A : Statement .set_3_A := ⟨_, _, rfl, rfl⟩
theorem EncodedLength.set_4_B : Statement .set_4_B := ⟨_, _, rfl, rfl⟩
theorem EncodedLength.set_4_C : Statement .set_4_C := ⟨_, _, rfl, rfl⟩
theorem EncodedLength.set_4_D : Statement .set_4_D := ⟨_, _, rfl, rfl⟩
theorem EncodedLength.set_4_E : Statement .set_4_E := ⟨_, _, rfl, rfl⟩
theorem EncodedLength.set_4_H : Statement .set_4_H := ⟨_, _, rfl, rfl⟩
theorem EncodedLength.set_4_L : Statement .set_4_L := ⟨_, _, rfl, rfl⟩
theorem EncodedLength.set_4_mHL : Statement .set_4_mHL := ⟨_, _, rfl, rfl⟩
theorem EncodedLength.set_4_A : Statement .set_4_A := ⟨_, _, rfl, rfl⟩
theorem EncodedLength.set_5_B : Statement .set_5_B := ⟨_, _, rfl, rfl⟩
theorem EncodedLength.set_5_C : Statement .set_5_C := ⟨_, _, rfl, rfl⟩
theorem EncodedLength.set_5_D : Statement .set_5_D := ⟨_, _, rfl, rfl⟩
theorem EncodedLength.set_5_E : Statement .set_5_E := ⟨_, _, rfl, rfl⟩
theorem EncodedLength.set_5_H : Statement .set_5_H := ⟨_, _, rfl, rfl⟩
theorem EncodedLength.set_5_L : Statement .set_5_L := ⟨_, _, rfl, rfl⟩
theorem EncodedLength.set_5_mHL : Statement .set_5_mHL := ⟨_, _, rfl, rfl⟩
theorem EncodedLength.set_5_A : Statement .set_5_A := ⟨_, _, rfl, rfl⟩
theorem EncodedLength.set_6_B : Statement .set_6_B := ⟨_, _, rfl, rfl⟩
theorem EncodedLength.set_6_C : Statement .set_6_C := ⟨_, _, rfl, rfl⟩
theorem EncodedLength.set_6_D : Statement .set_6_D := ⟨_, _, rfl, rfl⟩
theorem EncodedLength.set_6_E : Statement .set_6_E := ⟨_, _, rfl, rfl⟩
theorem EncodedLength.set_6_H : Statement .set_6_H := ⟨_, _, rfl, rfl⟩
theorem EncodedLength.set_6_L : Statement .set_6_L := ⟨_, _, rfl, rfl⟩
theorem EncodedLength.set_6_mHL : Statement .set_6_mHL := ⟨_, _, rfl, rfl⟩
theorem EncodedLength.set_6_A : Statement .set_6_A := ⟨_, _, rfl, rfl⟩
theorem EncodedLength.set_7_B : Statement .set_7_B := ⟨_, _, rfl, rfl⟩
theorem EncodedLength.set_7_C : Statement .set_7_C := ⟨_, _, rfl, rfl⟩
theorem EncodedLength.set_7_D : Statement .set_7_D := ⟨_, _, rfl, rfl⟩
theorem EncodedLength.set_7_E : Statement .set_7_E := ⟨_, _, rfl, rfl⟩
theorem EncodedLength.set_7_H : Statement .set_7_H := ⟨_, _, rfl, rfl⟩
theorem EncodedLength.set_7_L : Statement .set_7_L := ⟨_, _, rfl, rfl⟩
theorem EncodedLength.set_7_mHL : Statement .set_7_mHL := ⟨_, _, rfl, rfl⟩
theorem EncodedLength.set_7_A : Statement .set_7_A := ⟨_, _, rfl, rfl⟩

end Sys2Proof.Laws
end

