-- ==== Sys2Proof/Laws/Step.lean ====
section
/-!
SUPPORT. What a step does: each of its outcomes, and from an outcome back to its cause.
-/

namespace Sys2Proof.Machine

theorem step_of_not_ready {s : State} (h : s.run ≠ .ready) : step s = .refused .notReady := by
  simp [step, h]

theorem step_of_dispatching {s : State} (hr : s.run = .ready) (h : s.stepState ≠ .idle) :
    step s = .refused .stepInProgress := by
  simp [step, hr, h]

theorem step_of_unfetchable {s : State} (hr : s.run = .ready) (hi : s.stepState = .idle)
    (h : fetchable s.pc = false) : step s = .next (s.takeFault .outOfRangePC) := by
  simp [step, hr, hi, h]

theorem step_of_fetchable {s : State} (hr : s.run = .ready) (hi : s.stepState = .idle)
    (h : fetchable s.pc = true) : step s = endOutcome (exec s.fetchInstr s.beginStep) := by
  simp [step, hr, hi, h]

/-- A step that answers a next state ran the instruction at pc, or raised OutOfRangePC. -/
theorem step_cases {s t : State} (h : step s = .next t) :
    s.run = .ready ∧ s.stepState = .idle ∧
      ((fetchable s.pc = true ∧ ∃ u, exec s.fetchInstr s.beginStep = .next u ∧ t = u.endStep) ∨
        (fetchable s.pc = false ∧ t = s.takeFault .outOfRangePC)) := by
  by_cases hr : s.run = .ready
  · by_cases hi : s.stepState = .idle
    · refine ⟨hr, hi, ?_⟩
      cases hf : fetchable s.pc with
      | true =>
        rw [step_of_fetchable hr hi hf] at h
        refine .inl ⟨rfl, ?_⟩
        cases he : exec s.fetchInstr s.beginStep with
        | next u =>
          rw [he] at h
          exact ⟨u, rfl, (Host.Outcome.next.inj h).symm⟩
        | fault k => rw [he] at h; cases h
        | refused r => rw [he] at h; cases h
      | false =>
        rw [step_of_unfetchable hr hi hf] at h
        exact .inr ⟨rfl, (Host.Outcome.next.inj h).symm⟩
    · rw [step_of_dispatching hr hi] at h
      cases h
  · rw [step_of_not_ready hr] at h
    cases h

theorem fetchable_iff (pc : Word) : fetchable pc = true ↔ pc.toNat < 0x8000 :=
  decide_eq_true_iff

/-- A raise is the fault on the state the handler was entered in. -/
theorem endStep_takeFault (s : State) (k : Fault) :
    (s.takeFault k).endStep = s.endStep.takeFault k := rfl

/-! ## Between the list of bytes and the three bytes the step reads -/

theorem lengthOf_pos (op : Byte) : 0 < lengthOf op := by
  unfold lengthOf
  cases slotOf op <;> simp [Slot.length]

theorem lengthOf_le_three (op : Byte) : lengthOf op ≤ 3 := by
  unfold lengthOf
  cases slotOf op <;> simp [Slot.length]

/-- The decoder reads from three bytes what the step runs. -/
theorem decode_fetchBytes (s : State) :
    decode s.fetchBytes = .ok (s.fetchInstr, s.fetchBytes.drop (lengthOf s.opcodeByte)) := by
  have hl := lengthOf_le_three s.opcodeByte
  obtain ⟨n, hn⟩ := Nat.exists_eq_add_of_le' (lengthOf_pos s.opcodeByte)
  simp [decode, State.fetchBytes, State.fetchInstr, hn]
  omega

end Sys2Proof.Machine
end

