-- ==== Sys2Proof/Tests/Slice0.lean ====
section
/-!
SUPPORT. The tests: ill-formed terms, the decoding of every row of the opcode map, single steps from the
spec's own vectors, and a witness for the hypotheses of every statement that has some.
-/

namespace Sys2Proof.Tests

open Sys2Proof.Machine

/-! ## WellFormed -/

/-- The one check: a CB-prefixed instruction spelled as the prefix with an operand (log 12). -/
theorem test_prefix_with_operand_is_ill_formed : Instr.WellFormed (.prefixCb 0x36) = false := rfl

theorem test_the_same_instruction_in_its_own_row_is_well_formed :
    Instr.WellFormed .swap_mHL = true := rfl

/-! ## Decoding: the maps of spec/30_encoding.md R113 and R114, row by row

The operand bytes are `0x34`, `0x12`. -/

theorem test_decode_0x :
    ([
      0x00, 0x01, 0x02, 0x03, 0x04, 0x05, 0x06, 0x07, 0x08, 0x09, 0x0A, 0x0B, 0x0C, 0x0D, 0x0E,
      0x0F] : List Byte).map (decodeAt · 0x34 0x12) = [
      .nop, (.ld_BC_nn 0x1234), .ld_mBC_A, .inc_BC, .inc_B, .dec_B, (.ld_B_n 0x34), .rlca,
      (.ld_mnn_SP 0x1234), .add_HL_BC, .ld_A_mBC, .dec_BC, .inc_C, .dec_C, (.ld_C_n 0x34), .rrca] := rfl

theorem test_decode_1x :
    ([
      0x10, 0x11, 0x12, 0x13, 0x14, 0x15, 0x16, 0x17, 0x18, 0x19, 0x1A, 0x1B, 0x1C, 0x1D, 0x1E,
      0x1F] : List Byte).map (decodeAt · 0x34 0x12) = [
      .stop, (.ld_DE_nn 0x1234), .ld_mDE_A, .inc_DE, .inc_D, .dec_D, (.ld_D_n 0x34), .rla,
      (.jr_e 0x34), .add_HL_DE, .ld_A_mDE, .dec_DE, .inc_E, .dec_E, (.ld_E_n 0x34), .rra] := rfl

theorem test_decode_2x :
    ([
      0x20, 0x21, 0x22, 0x23, 0x24, 0x25, 0x26, 0x27, 0x28, 0x29, 0x2A, 0x2B, 0x2C, 0x2D, 0x2E,
      0x2F] : List Byte).map (decodeAt · 0x34 0x12) = [
      (.jr_NZ_e 0x34), (.ld_HL_nn 0x1234), .ld_mHLi_A, .inc_HL, .inc_H, .dec_H, (.ld_H_n 0x34),
      .daa, (.jr_Z_e 0x34), .add_HL_HL, .ld_A_mHLi, .dec_HL, .inc_L, .dec_L, (.ld_L_n 0x34), .cpl] := rfl

theorem test_decode_3x :
    ([
      0x30, 0x31, 0x32, 0x33, 0x34, 0x35, 0x36, 0x37, 0x38, 0x39, 0x3A, 0x3B, 0x3C, 0x3D, 0x3E,
      0x3F] : List Byte).map (decodeAt · 0x34 0x12) = [
      (.jr_NC_e 0x34), (.ld_SP_nn 0x1234), .ld_mHLd_A, .inc_SP, .inc_mHL, .dec_mHL,
      (.ld_mHL_n 0x34), .scf, (.jr_C_e 0x34), .add_HL_SP, .ld_A_mHLd, .dec_SP, .inc_A, .dec_A,
      (.ld_A_n 0x34), .ccf] := rfl

theorem test_decode_4x :
    ([
      0x40, 0x41, 0x42, 0x43, 0x44, 0x45, 0x46, 0x47, 0x48, 0x49, 0x4A, 0x4B, 0x4C, 0x4D, 0x4E,
      0x4F] : List Byte).map (decodeAt · 0x34 0x12) = [
      .ld_B_B, .ld_B_C, .ld_B_D, .ld_B_E, .ld_B_H, .ld_B_L, .ld_B_mHL, .ld_B_A, .ld_C_B, .ld_C_C,
      .ld_C_D, .ld_C_E, .ld_C_H, .ld_C_L, .ld_C_mHL, .ld_C_A] := rfl

theorem test_decode_5x :
    ([
      0x50, 0x51, 0x52, 0x53, 0x54, 0x55, 0x56, 0x57, 0x58, 0x59, 0x5A, 0x5B, 0x5C, 0x5D, 0x5E,
      0x5F] : List Byte).map (decodeAt · 0x34 0x12) = [
      .ld_D_B, .ld_D_C, .ld_D_D, .ld_D_E, .ld_D_H, .ld_D_L, .ld_D_mHL, .ld_D_A, .ld_E_B, .ld_E_C,
      .ld_E_D, .ld_E_E, .ld_E_H, .ld_E_L, .ld_E_mHL, .ld_E_A] := rfl

theorem test_decode_6x :
    ([
      0x60, 0x61, 0x62, 0x63, 0x64, 0x65, 0x66, 0x67, 0x68, 0x69, 0x6A, 0x6B, 0x6C, 0x6D, 0x6E,
      0x6F] : List Byte).map (decodeAt · 0x34 0x12) = [
      .ld_H_B, .ld_H_C, .ld_H_D, .ld_H_E, .ld_H_H, .ld_H_L, .ld_H_mHL, .ld_H_A, .ld_L_B, .ld_L_C,
      .ld_L_D, .ld_L_E, .ld_L_H, .ld_L_L, .ld_L_mHL, .ld_L_A] := rfl

theorem test_decode_7x :
    ([
      0x70, 0x71, 0x72, 0x73, 0x74, 0x75, 0x76, 0x77, 0x78, 0x79, 0x7A, 0x7B, 0x7C, 0x7D, 0x7E,
      0x7F] : List Byte).map (decodeAt · 0x34 0x12) = [
      .ld_mHL_B, .ld_mHL_C, .ld_mHL_D, .ld_mHL_E, .ld_mHL_H, .ld_mHL_L, .halt, .ld_mHL_A, .ld_A_B,
      .ld_A_C, .ld_A_D, .ld_A_E, .ld_A_H, .ld_A_L, .ld_A_mHL, .ld_A_A] := rfl

theorem test_decode_8x :
    ([
      0x80, 0x81, 0x82, 0x83, 0x84, 0x85, 0x86, 0x87, 0x88, 0x89, 0x8A, 0x8B, 0x8C, 0x8D, 0x8E,
      0x8F] : List Byte).map (decodeAt · 0x34 0x12) = [
      .add_A_B, .add_A_C, .add_A_D, .add_A_E, .add_A_H, .add_A_L, .add_A_mHL, .add_A_A, .adc_A_B,
      .adc_A_C, .adc_A_D, .adc_A_E, .adc_A_H, .adc_A_L, .adc_A_mHL, .adc_A_A] := rfl

theorem test_decode_9x :
    ([
      0x90, 0x91, 0x92, 0x93, 0x94, 0x95, 0x96, 0x97, 0x98, 0x99, 0x9A, 0x9B, 0x9C, 0x9D, 0x9E,
      0x9F] : List Byte).map (decodeAt · 0x34 0x12) = [
      .sub_B, .sub_C, .sub_D, .sub_E, .sub_H, .sub_L, .sub_mHL, .sub_A, .sbc_A_B, .sbc_A_C,
      .sbc_A_D, .sbc_A_E, .sbc_A_H, .sbc_A_L, .sbc_A_mHL, .sbc_A_A] := rfl

theorem test_decode_Ax :
    ([
      0xA0, 0xA1, 0xA2, 0xA3, 0xA4, 0xA5, 0xA6, 0xA7, 0xA8, 0xA9, 0xAA, 0xAB, 0xAC, 0xAD, 0xAE,
      0xAF] : List Byte).map (decodeAt · 0x34 0x12) = [
      .and_B, .and_C, .and_D, .and_E, .and_H, .and_L, .and_mHL, .and_A, .xor_B, .xor_C, .xor_D,
      .xor_E, .xor_H, .xor_L, .xor_mHL, .xor_A] := rfl

theorem test_decode_Bx :
    ([
      0xB0, 0xB1, 0xB2, 0xB3, 0xB4, 0xB5, 0xB6, 0xB7, 0xB8, 0xB9, 0xBA, 0xBB, 0xBC, 0xBD, 0xBE,
      0xBF] : List Byte).map (decodeAt · 0x34 0x12) = [
      .or_B, .or_C, .or_D, .or_E, .or_H, .or_L, .or_mHL, .or_A, .cp_B, .cp_C, .cp_D, .cp_E, .cp_H,
      .cp_L, .cp_mHL, .cp_A] := rfl

theorem test_decode_Cx :
    ([
      0xC0, 0xC1, 0xC2, 0xC3, 0xC4, 0xC5, 0xC6, 0xC7, 0xC8, 0xC9, 0xCA, 0xCB, 0xCC, 0xCD, 0xCE,
      0xCF] : List Byte).map (decodeAt · 0x34 0x12) = [
      .ret_NZ, .pop_BC, (.jp_NZ_nn 0x1234), (.jp_nn 0x1234), (.call_NZ_nn 0x1234), .push_BC,
      (.add_A_n 0x34), .rst_00H, .ret_Z, .ret, (.jp_Z_nn 0x1234), .swap_H, (.call_Z_nn 0x1234),
      (.call_nn 0x1234), (.adc_A_n 0x34), .rst_08H] := rfl

theorem test_decode_Dx :
    ([
      0xD0, 0xD1, 0xD2, 0xD3, 0xD4, 0xD5, 0xD6, 0xD7, 0xD8, 0xD9, 0xDA, 0xDB, 0xDC, 0xDD, 0xDE,
      0xDF] : List Byte).map (decodeAt · 0x34 0x12) = [
      .ret_NC, .pop_DE, (.jp_NC_nn 0x1234), .noInstruction_D3, (.call_NC_nn 0x1234), .push_DE,
      (.sub_n 0x34), .rst_10H, .ret_C, .reti, (.jp_C_nn 0x1234), .noInstruction_DB,
      (.call_C_nn 0x1234), .noInstruction_DD, (.sbc_A_n 0x34), .rst_18H] := rfl

theorem test_decode_Ex :
    ([
      0xE0, 0xE1, 0xE2, 0xE3, 0xE4, 0xE5, 0xE6, 0xE7, 0xE8, 0xE9, 0xEA, 0xEB, 0xEC, 0xED, 0xEE,
      0xEF] : List Byte).map (decodeAt · 0x34 0x12) = [
      (.ldh_mn_A 0x34), .pop_HL, .ld_mC_A, .noInstruction_E3, .noInstruction_E4, .push_HL,
      (.and_n 0x34), .rst_20H, (.add_SP_e 0x34), .jp_HL, (.ld_mnn_A 0x1234), .noInstruction_EB,
      .noInstruction_EC, .noInstruction_ED, (.xor_n 0x34), .rst_28H] := rfl

theorem test_decode_Fx :
    ([
      0xF0, 0xF1, 0xF2, 0xF3, 0xF4, 0xF5, 0xF6, 0xF7, 0xF8, 0xF9, 0xFA, 0xFB, 0xFC, 0xFD, 0xFE,
      0xFF] : List Byte).map (decodeAt · 0x34 0x12) = [
      (.ldh_A_mn 0x34), .pop_AF, .ld_A_mC, .di, .noInstruction_F4, .push_AF, (.or_n 0x34),
      .rst_30H, (.ld_HL_SPe 0x34), .ld_SP_HL, (.ld_A_mnn 0x1234), .ei, .noInstruction_FC,
      .noInstruction_FD, (.cp_n 0x34), .rst_38H] := rfl

theorem test_decode_CB_00 :
    ([0x00, 0x01, 0x02, 0x03, 0x04, 0x05, 0x06, 0x07] : List Byte).map (decodeAt 0xCB · 0) = [
      .rlc_B, .rlc_C, .rlc_D, .rlc_E, .rlc_H, .rlc_L, .rlc_mHL, .rlc_A] := rfl

theorem test_decode_CB_08 :
    ([0x08, 0x09, 0x0A, 0x0B, 0x0C, 0x0D, 0x0E, 0x0F] : List Byte).map (decodeAt 0xCB · 0) = [
      .rrc_B, .rrc_C, .rrc_D, .rrc_E, .rrc_H, .rrc_L, .rrc_mHL, .rrc_A] := rfl

theorem test_decode_CB_10 :
    ([0x10, 0x11, 0x12, 0x13, 0x14, 0x15, 0x16, 0x17] : List Byte).map (decodeAt 0xCB · 0) = [
      .rl_B, .rl_C, .rl_D, .rl_E, .rl_H, .rl_L, .rl_mHL, .rl_A] := rfl

theorem test_decode_CB_18 :
    ([0x18, 0x19, 0x1A, 0x1B, 0x1C, 0x1D, 0x1E, 0x1F] : List Byte).map (decodeAt 0xCB · 0) = [
      .rr_B, .rr_C, .rr_D, .rr_E, .rr_H, .rr_L, .rr_mHL, .rr_A] := rfl

theorem test_decode_CB_20 :
    ([0x20, 0x21, 0x22, 0x23, 0x24, 0x25, 0x26, 0x27] : List Byte).map (decodeAt 0xCB · 0) = [
      .sla_B, .sla_C, .sla_D, .sla_E, .sla_H, .sla_L, .sla_mHL, .sla_A] := rfl

theorem test_decode_CB_28 :
    ([0x28, 0x29, 0x2A, 0x2B, 0x2C, 0x2D, 0x2E, 0x2F] : List Byte).map (decodeAt 0xCB · 0) = [
      .sra_B, .sra_C, .sra_D, .sra_E, .sra_H, .sra_L, .sra_mHL, .sra_A] := rfl

theorem test_decode_CB_30 :
    ([0x30, 0x31, 0x32, 0x33, 0x34, 0x35, 0x36, 0x37] : List Byte).map (decodeAt 0xCB · 0) = [
      .swap_B, .swap_C, .swap_D, .swap_E, .swap_H, .swap_L, .swap_mHL, .swap_A] := rfl

theorem test_decode_CB_38 :
    ([0x38, 0x39, 0x3A, 0x3B, 0x3C, 0x3D, 0x3E, 0x3F] : List Byte).map (decodeAt 0xCB · 0) = [
      .srl_B, .srl_C, .srl_D, .srl_E, .srl_H, .srl_L, .srl_mHL, .srl_A] := rfl

theorem test_decode_CB_40 :
    ([0x40, 0x41, 0x42, 0x43, 0x44, 0x45, 0x46, 0x47] : List Byte).map (decodeAt 0xCB · 0) = [
      .bit_0_B, .bit_0_C, .bit_0_D, .bit_0_E, .bit_0_H, .bit_0_L, .bit_0_mHL, .bit_0_A] := rfl

theorem test_decode_CB_48 :
    ([0x48, 0x49, 0x4A, 0x4B, 0x4C, 0x4D, 0x4E, 0x4F] : List Byte).map (decodeAt 0xCB · 0) = [
      .bit_1_B, .bit_1_C, .bit_1_D, .bit_1_E, .bit_1_H, .bit_1_L, .bit_1_mHL, .bit_1_A] := rfl

theorem test_decode_CB_50 :
    ([0x50, 0x51, 0x52, 0x53, 0x54, 0x55, 0x56, 0x57] : List Byte).map (decodeAt 0xCB · 0) = [
      .bit_2_B, .bit_2_C, .bit_2_D, .bit_2_E, .bit_2_H, .bit_2_L, .bit_2_mHL, .bit_2_A] := rfl

theorem test_decode_CB_58 :
    ([0x58, 0x59, 0x5A, 0x5B, 0x5C, 0x5D, 0x5E, 0x5F] : List Byte).map (decodeAt 0xCB · 0) = [
      .bit_3_B, .bit_3_C, .bit_3_D, .bit_3_E, .bit_3_H, .bit_3_L, .bit_3_mHL, .bit_3_A] := rfl

theorem test_decode_CB_60 :
    ([0x60, 0x61, 0x62, 0x63, 0x64, 0x65, 0x66, 0x67] : List Byte).map (decodeAt 0xCB · 0) = [
      .bit_4_B, .bit_4_C, .bit_4_D, .bit_4_E, .bit_4_H, .bit_4_L, .bit_4_mHL, .bit_4_A] := rfl

theorem test_decode_CB_68 :
    ([0x68, 0x69, 0x6A, 0x6B, 0x6C, 0x6D, 0x6E, 0x6F] : List Byte).map (decodeAt 0xCB · 0) = [
      .bit_5_B, .bit_5_C, .bit_5_D, .bit_5_E, .bit_5_H, .bit_5_L, .bit_5_mHL, .bit_5_A] := rfl

theorem test_decode_CB_70 :
    ([0x70, 0x71, 0x72, 0x73, 0x74, 0x75, 0x76, 0x77] : List Byte).map (decodeAt 0xCB · 0) = [
      .bit_6_B, .bit_6_C, .bit_6_D, .bit_6_E, .bit_6_H, .bit_6_L, .bit_6_mHL, .bit_6_A] := rfl

theorem test_decode_CB_78 :
    ([0x78, 0x79, 0x7A, 0x7B, 0x7C, 0x7D, 0x7E, 0x7F] : List Byte).map (decodeAt 0xCB · 0) = [
      .bit_7_B, .bit_7_C, .bit_7_D, .bit_7_E, .bit_7_H, .bit_7_L, .bit_7_mHL, .bit_7_A] := rfl

theorem test_decode_CB_80 :
    ([0x80, 0x81, 0x82, 0x83, 0x84, 0x85, 0x86, 0x87] : List Byte).map (decodeAt 0xCB · 0) = [
      .res_0_B, .res_0_C, .res_0_D, .res_0_E, .res_0_H, .res_0_L, .res_0_mHL, .res_0_A] := rfl

theorem test_decode_CB_88 :
    ([0x88, 0x89, 0x8A, 0x8B, 0x8C, 0x8D, 0x8E, 0x8F] : List Byte).map (decodeAt 0xCB · 0) = [
      .res_1_B, .res_1_C, .res_1_D, .res_1_E, .res_1_H, .res_1_L, .res_1_mHL, .res_1_A] := rfl

theorem test_decode_CB_90 :
    ([0x90, 0x91, 0x92, 0x93, 0x94, 0x95, 0x96, 0x97] : List Byte).map (decodeAt 0xCB · 0) = [
      .res_2_B, .res_2_C, .res_2_D, .res_2_E, .res_2_H, .res_2_L, .res_2_mHL, .res_2_A] := rfl

theorem test_decode_CB_98 :
    ([0x98, 0x99, 0x9A, 0x9B, 0x9C, 0x9D, 0x9E, 0x9F] : List Byte).map (decodeAt 0xCB · 0) = [
      .res_3_B, .res_3_C, .res_3_D, .res_3_E, .res_3_H, .res_3_L, .res_3_mHL, .res_3_A] := rfl

theorem test_decode_CB_A0 :
    ([0xA0, 0xA1, 0xA2, 0xA3, 0xA4, 0xA5, 0xA6, 0xA7] : List Byte).map (decodeAt 0xCB · 0) = [
      .res_4_B, .res_4_C, .res_4_D, .res_4_E, .res_4_H, .res_4_L, .res_4_mHL, .res_4_A] := rfl

theorem test_decode_CB_A8 :
    ([0xA8, 0xA9, 0xAA, 0xAB, 0xAC, 0xAD, 0xAE, 0xAF] : List Byte).map (decodeAt 0xCB · 0) = [
      .res_5_B, .res_5_C, .res_5_D, .res_5_E, .res_5_H, .res_5_L, .res_5_mHL, .res_5_A] := rfl

theorem test_decode_CB_B0 :
    ([0xB0, 0xB1, 0xB2, 0xB3, 0xB4, 0xB5, 0xB6, 0xB7] : List Byte).map (decodeAt 0xCB · 0) = [
      .res_6_B, .res_6_C, .res_6_D, .res_6_E, .res_6_H, .res_6_L, .res_6_mHL, .res_6_A] := rfl

theorem test_decode_CB_B8 :
    ([0xB8, 0xB9, 0xBA, 0xBB, 0xBC, 0xBD, 0xBE, 0xBF] : List Byte).map (decodeAt 0xCB · 0) = [
      .res_7_B, .res_7_C, .res_7_D, .res_7_E, .res_7_H, .res_7_L, .res_7_mHL, .res_7_A] := rfl

theorem test_decode_CB_C0 :
    ([0xC0, 0xC1, 0xC2, 0xC3, 0xC4, 0xC5, 0xC6, 0xC7] : List Byte).map (decodeAt 0xCB · 0) = [
      .set_0_B, .set_0_C, .set_0_D, .set_0_E, .set_0_H, .set_0_L, .set_0_mHL, .set_0_A] := rfl

theorem test_decode_CB_C8 :
    ([0xC8, 0xC9, 0xCA, 0xCB, 0xCC, 0xCD, 0xCE, 0xCF] : List Byte).map (decodeAt 0xCB · 0) = [
      .set_1_B, .set_1_C, .set_1_D, .set_1_E, .set_1_H, .set_1_L, .set_1_mHL, .set_1_A] := rfl

theorem test_decode_CB_D0 :
    ([0xD0, 0xD1, 0xD2, 0xD3, 0xD4, 0xD5, 0xD6, 0xD7] : List Byte).map (decodeAt 0xCB · 0) = [
      .set_2_B, .set_2_C, .set_2_D, .set_2_E, .set_2_H, .set_2_L, .set_2_mHL, .set_2_A] := rfl

theorem test_decode_CB_D8 :
    ([0xD8, 0xD9, 0xDA, 0xDB, 0xDC, 0xDD, 0xDE, 0xDF] : List Byte).map (decodeAt 0xCB · 0) = [
      .set_3_B, .set_3_C, .set_3_D, .set_3_E, .set_3_H, .set_3_L, .set_3_mHL, .set_3_A] := rfl

theorem test_decode_CB_E0 :
    ([0xE0, 0xE1, 0xE2, 0xE3, 0xE4, 0xE5, 0xE6, 0xE7] : List Byte).map (decodeAt 0xCB · 0) = [
      .set_4_B, .set_4_C, .set_4_D, .set_4_E, .set_4_H, .set_4_L, .set_4_mHL, .set_4_A] := rfl

theorem test_decode_CB_E8 :
    ([0xE8, 0xE9, 0xEA, 0xEB, 0xEC, 0xED, 0xEE, 0xEF] : List Byte).map (decodeAt 0xCB · 0) = [
      .set_5_B, .set_5_C, .set_5_D, .set_5_E, .set_5_H, .set_5_L, .set_5_mHL, .set_5_A] := rfl

theorem test_decode_CB_F0 :
    ([0xF0, 0xF1, 0xF2, 0xF3, 0xF4, 0xF5, 0xF6, 0xF7] : List Byte).map (decodeAt 0xCB · 0) = [
      .set_6_B, .set_6_C, .set_6_D, .set_6_E, .set_6_H, .set_6_L, .set_6_mHL, .set_6_A] := rfl

theorem test_decode_CB_F8 :
    ([0xF8, 0xF9, 0xFA, 0xFB, 0xFC, 0xFD, 0xFE, 0xFF] : List Byte).map (decodeAt 0xCB · 0) = [
      .set_7_B, .set_7_C, .set_7_D, .set_7_E, .set_7_H, .set_7_L, .set_7_mHL, .set_7_A] := rfl

/-- Bytes after an instruction are left, and a missing operand byte is refused by name (R102). -/
theorem test_decode_leaves_the_rest :
    decode [0xC3, 0x50, 0x01, 0x00] = .ok (.jp_nn 0x0150, [0x00]) := rfl

theorem test_decode_refuses_a_missing_byte :
    decode [0xC3, 0x50] = .error (.operandBytesMissing 0xC3) := rfl

theorem test_decode_refuses_no_bytes : decode [] = .error .noBytes := rfl

/-- A table row's bits in both numberings (log 13), `SWAP B` and `LD A,n`. -/
theorem test_table_words : decodeTableWord 16 0x30CB = some .swap_B ∧
    decodeTableWord 16 0xCB30 = some .swap_B ∧ decodeTableWord 8 0x3E = some (.ld_A_n 0) := by
  decide

/-! ## Single steps: spec/95_test_vectors.md sections 2.4 to 2.11, each by its number -/

/-- The reset state of the vectors, with CurrentOpcode and the open parameters given. -/
def machine (ext : Bool) (adjust : SbcAdjust) : State :=
  { State.reset with currentOpcode := 0, params := { ext := ext, sbcAdjust := adjust } }

/-- The state with bytes put into memory. -/
def put (s : State) (a : Nat) (bs : List Byte) : State := { s with mem := s.mem.load a bs }

/-- The outcome is the next state given, in every field. -/
def goesTo : Outcome → State → Bool
  | .next t, u => decide (t = u)
  | _, _ => false

/-- The outcome is a next state of which a check holds. -/
def answers : Outcome → (State → Bool) → Bool
  | .next t, p => p t
  | _, _ => false

/-- `LD B,C`. -/
theorem test_V1 :
    let start := (put (machine false .dec) 0x100 [0x41])
    goesTo (step start) { (((start.setReg8 .f 0xB0).setReg8 .b 0x13).setReg16 .pc 0x0101) with currentOpcode := 0x41 } = true := by
  decide

/-- `LD D,n`. -/
theorem test_V3 :
    let start := (put (machine false .dec) 0x100 [0x16, 0xAB])
    goesTo (step start) { (((start.setReg8 .f 0xB0).setReg8 .d 0xAB).setReg16 .pc 0x0102) with currentOpcode := 0x16 } = true := by
  decide

/-- `LD A,(HL)`. -/
theorem test_V4 :
    let start := (((put (machine false .dec) 0x100 [0x7E]).setReg16 .hl 0xC123).writeU8 0xC123 0x99)
    goesTo (step start) { (((start.setReg8 .a 0x99).setReg8 .f 0xB0).setReg16 .pc 0x0101) with currentOpcode := 0x7E } = true := by
  decide

/-- `LD H,(HL)`. -/
theorem test_V5 :
    let start := (((put (machine false .dec) 0x100 [0x66]).setReg16 .hl 0xC123).writeU8 0xC123 0x80)
    goesTo (step start) { (((start.setReg8 .f 0xB0).setReg8 .h 0x80).setReg16 .pc 0x0101) with currentOpcode := 0x66 } = true := by
  decide

/-- `LD (HL),E`. -/
theorem test_V6 :
    let start := ((put (machine false .dec) 0x100 [0x73]).setReg16 .hl 0xC000)
    goesTo (step start) { (((start.setReg8 .f 0xB0).setReg16 .pc 0x0101).writeU8 0xC000 0xD8) with currentOpcode := 0x73 } = true := by
  decide

/-- `LD (HL),L`. -/
theorem test_V7 :
    let start := ((put (machine false .dec) 0x100 [0x75]).setReg16 .hl 0xC0DE)
    goesTo (step start) { (((start.setReg8 .f 0xB0).setReg16 .pc 0x0101).writeU8 0xC0DE 0xDE) with currentOpcode := 0x75 } = true := by
  decide

/-- `LD (HL),n`. -/
theorem test_V8 :
    let start := ((put (machine false .dec) 0x100 [0x36, 0x5A]).setReg16 .hl 0x0200)
    goesTo (step start) { (((start.setReg8 .f 0xB0).setReg16 .pc 0x0102).writeU8 0x0200 0x5A) with currentOpcode := 0x36 } = true := by
  decide

/-- `LD A,(BC)`. -/
theorem test_V9 :
    let start := (((put (machine false .dec) 0x100 [0x0A]).setReg16 .bc 0xC010).writeU8 0xC010 0x77)
    goesTo (step start) { (((start.setReg8 .a 0x77).setReg8 .f 0xB0).setReg16 .pc 0x0101) with currentOpcode := 0x0A } = true := by
  decide

/-- `LD A,(DE)`. -/
theorem test_V10 :
    let start := (((put (machine false .dec) 0x100 [0x1A]).setReg16 .de 0xFFFF).writeU8 0xFFFF 0x1F)
    goesTo (step start) { (((start.setReg8 .a 0x1F).setReg8 .f 0xB0).setReg16 .pc 0x0101) with currentOpcode := 0x1A } = true := by
  decide

/-- `LD (BC),A`. -/
theorem test_V11 :
    let start := (((put (machine false .dec) 0x100 [0x02]).setReg16 .bc 0xC010).setReg8 .a 0x42)
    goesTo (step start) { (((start.setReg8 .f 0xB0).setReg16 .pc 0x0101).writeU8 0xC010 0x42) with currentOpcode := 0x02 } = true := by
  decide

/-- `LD (DE),A`. -/
theorem test_V12 :
    let start := (((put (machine false .dec) 0x100 [0x12]).setReg16 .de 0x8000).setReg8 .a 0x42)
    goesTo (step start) { (((start.setReg8 .f 0xB0).setReg16 .pc 0x0101).writeU8 0x8000 0x42) with currentOpcode := 0x12 } = true := by
  decide

/-- `LD A,(nn)`. -/
theorem test_V13 :
    let start := ((put (machine false .dec) 0x100 [0xFA, 0x34, 0xC2]).writeU8 0xC234 0xEE)
    goesTo (step start) { (((start.setReg8 .a 0xEE).setReg8 .f 0xB0).setReg16 .pc 0x0103) with currentOpcode := 0xFA } = true := by
  decide

/-- `LD (nn),A`. -/
theorem test_V14 :
    let start := ((put (machine false .dec) 0x100 [0xEA, 0x0F, 0xFF]).setReg8 .a 0xE1)
    goesTo (step start) { (((start.setReg8 .f 0xB0).setReg16 .pc 0x0103).writeU8 0xFF0F 0xE1) with currentOpcode := 0xEA } = true := by
  decide

/-- `LDH A,(n)`. -/
theorem test_V15 :
    let start := ((put (machine false .dec) 0x100 [0xF0, 0x0F]).writeU8 0xFF0F 0x3C)
    goesTo (step start) { (((start.setReg8 .a 0x3C).setReg8 .f 0xB0).setReg16 .pc 0x0102) with currentOpcode := 0xF0 } = true := by
  decide

/-- `LDH (n),A`. -/
theorem test_V16 :
    let start := ((put (machine false .dec) 0x100 [0xE0, 0xFF]).setReg8 .a 0x1F)
    goesTo (step start) { (((start.setReg8 .f 0xB0).setReg16 .pc 0x0102).writeU8 0xFFFF 0x1F) with currentOpcode := 0xE0 } = true := by
  decide

/-- `LD A,(C)`. -/
theorem test_V17 :
    let start := (((put (machine false .dec) 0x100 [0xF2]).setReg8 .c 0x80).writeU8 0xFF80 0x12)
    goesTo (step start) { (((start.setReg8 .a 0x12).setReg8 .f 0xB0).setReg16 .pc 0x0101) with currentOpcode := 0xF2 } = true := by
  decide

/-- `LD (C),A`. -/
theorem test_V18 :
    let start := (((put (machine false .dec) 0x100 [0xE2]).setReg8 .c 0x80).setReg8 .a 0x34)
    goesTo (step start) { (((start.setReg8 .f 0xB0).setReg16 .pc 0x0101).writeU8 0xFF80 0x34) with currentOpcode := 0xE2 } = true := by
  decide

/-- `LD (HL+),A`. -/
theorem test_V19 :
    let start := (((put (machine false .dec) 0x100 [0x22]).setReg16 .hl 0xFFFF).setReg8 .a 0x56)
    goesTo (step start) { (((((start.setReg8 .f 0xB0).setReg8 .h 0x00).setReg8 .l 0x00).setReg16 .pc 0x0101).writeU8 0xFFFF 0x56) with currentOpcode := 0x22 } = true := by
  decide

/-- `LD A,(HL+)`. -/
theorem test_V20 :
    let start := (((put (machine false .dec) 0x100 [0x2A]).setReg16 .hl 0xC0FF).writeU8 0xC0FF 0x9A)
    goesTo (step start) { (((((start.setReg8 .a 0x9A).setReg8 .f 0xB0).setReg8 .h 0xC1).setReg8 .l 0x00).setReg16 .pc 0x0101) with currentOpcode := 0x2A } = true := by
  decide

/-- `LD (HL-),A`. -/
theorem test_V21 :
    let start := (((put (machine false .dec) 0x100 [0x32]).setReg16 .hl 0x0000).setReg8 .a 0x56)
    goesTo (step start) { (((((start.setReg8 .f 0xB0).setReg8 .h 0xFF).setReg8 .l 0xFF).setReg16 .pc 0x0101).writeU8 0x0000 0x56) with currentOpcode := 0x32 } = true := by
  decide

/-- `LD A,(HL-)`. -/
theorem test_V22 :
    let start := (((put (machine false .dec) 0x100 [0x3A]).setReg16 .hl 0xC100).writeU8 0xC100 0x9B)
    goesTo (step start) { (((((start.setReg8 .a 0x9B).setReg8 .f 0xB0).setReg8 .h 0xC0).setReg8 .l 0xFF).setReg16 .pc 0x0101) with currentOpcode := 0x3A } = true := by
  decide

/-- `LD BC,nn`. -/
theorem test_V23 :
    let start := (put (machine false .dec) 0x100 [0x01, 0x34, 0x12])
    goesTo (step start) { ((((start.setReg8 .f 0xB0).setReg8 .b 0x12).setReg8 .c 0x34).setReg16 .pc 0x0103) with currentOpcode := 0x01 } = true := by
  decide

/-- `LD (nn),SP`. -/
theorem test_V26 :
    let start := ((put (machine false .dec) 0x100 [0x08, 0xFF, 0xFF]).setReg16 .sp 0x1234)
    goesTo (step start) { ((((start.setReg8 .f 0xB0).setReg16 .pc 0x0103).writeU8 0x0000 0x12).writeU8 0xFFFF 0x34) with currentOpcode := 0x08 } = true := by
  decide

/-- `LD SP,HL`. -/
theorem test_V27 :
    let start := ((put (machine false .dec) 0x100 [0xF9]).setReg16 .hl 0xCFFF)
    goesTo (step start) { (((start.setReg8 .f 0xB0).setReg16 .sp 0xCFFF).setReg16 .pc 0x0101) with currentOpcode := 0xF9 } = true := by
  decide

/-- `PUSH HL`. -/
theorem test_V30 :
    let start := (((put (machine false .dec) 0x100 [0xE5]).setReg16 .sp 0x0001).setReg16 .hl 0xABCD)
    goesTo (step start) { (((((start.setReg8 .f 0xB0).setReg16 .sp 0xFFFF).setReg16 .pc 0x0101).writeU8 0x0000 0xAB).writeU8 0xFFFF 0xCD) with currentOpcode := 0xE5 } = true := by
  decide

/-- `POP AF`. -/
theorem test_V32 :
    let start := ((((put (machine false .dec) 0x100 [0xF1]).setReg16 .sp 0xC000).writeU8 0xC000 0xFF).writeU8 0xC001 0x12)
    goesTo (step start) { ((((start.setReg8 .a 0x12).setReg8 .f 0xF0).setReg16 .sp 0xC002).setReg16 .pc 0x0101) with currentOpcode := 0xF1 } = true := by
  decide

/-- `POP HL`. -/
theorem test_V33 :
    let start := ((((put (machine false .dec) 0x100 [0xE1]).setReg16 .sp 0xFFFF).writeU8 0xFFFF 0x34).writeU8 0x0000 0x12)
    goesTo (step start) { (((((start.setReg8 .f 0xB0).setReg8 .h 0x12).setReg8 .l 0x34).setReg16 .sp 0x0001).setReg16 .pc 0x0101) with currentOpcode := 0xE1 } = true := by
  decide

/-- `ADD A,(HL)`. -/
theorem test_V42 :
    let start := ((((put (machine false .dec) 0x100 [0x86]).setReg8 .a 0x0F).setReg16 .hl 0xC000).writeU8 0xC000 0x01)
    goesTo (step start) { (((start.setReg8 .a 0x10).setReg8 .f 0x20).setReg16 .pc 0x0101) with currentOpcode := 0x86 } = true := by
  decide

/-- `ADC A,C`. -/
theorem test_V44 :
    let start := ((((put (machine false .dec) 0x100 [0x89]).setReg8 .a 0xE1).setReg8 .c 0x0F).setReg8 .f 0x10)
    goesTo (step start) { (((start.setReg8 .a 0xF1).setReg8 .f 0x00).setReg16 .pc 0x0101) with currentOpcode := 0x89 } = true := by
  decide

/-- `ADC A,n`. -/
theorem test_V46 :
    let start := (((put (machine false .dec) 0x100 [0xCE, 0xFF]).setReg8 .a 0x00).setReg8 .f 0x10)
    goesTo (step start) { ((start.setReg8 .f 0x80).setReg16 .pc 0x0102) with currentOpcode := 0xCE } = true := by
  decide

/-- `SUB (HL)`. -/
theorem test_V49 :
    let start := ((((put (machine false .dec) 0x100 [0x96]).setReg8 .a 0x3E).setReg16 .hl 0xC000).writeU8 0xC000 0x40)
    goesTo (step start) { (((start.setReg8 .a 0xFE).setReg8 .f 0x50).setReg16 .pc 0x0101) with currentOpcode := 0x96 } = true := by
  decide

/-- `SBC A,H`. -/
theorem test_V52 :
    let start := ((((put (machine false .dec) 0x100 [0x9C]).setReg8 .a 0x3B).setReg8 .h 0x2A).setReg8 .f 0x10)
    goesTo (step start) { (((start.setReg8 .a 0x12).setReg8 .f 0x40).setReg16 .pc 0x0101) with currentOpcode := 0x9C } = true := by
  decide

/-- `SBC A,(HL)`. -/
theorem test_V57 :
    let start := (((((put (machine false .inc) 0x100 [0x9E]).setReg8 .a 0x3B).setReg16 .hl 0xC000).setReg8 .f 0x10).writeU8 0xC000 0x4F)
    goesTo (step start) { (((start.setReg8 .a 0xEB).setReg8 .f 0x50).setReg16 .pc 0x0101) with currentOpcode := 0x9E } = true := by
  decide

/-- `AND L`. -/
theorem test_V60 :
    let start := (((put (machine false .dec) 0x100 [0xA5]).setReg8 .a 0x5A).setReg8 .l 0x3F)
    goesTo (step start) { (((start.setReg8 .a 0x1A).setReg8 .f 0x20).setReg16 .pc 0x0101) with currentOpcode := 0xA5 } = true := by
  decide

/-- `XOR (HL)`. -/
theorem test_V65 :
    let start := ((((put (machine false .dec) 0x100 [0xAE]).setReg8 .a 0xFF).setReg16 .hl 0xC000).writeU8 0xC000 0x8A)
    goesTo (step start) { (((start.setReg8 .a 0x75).setReg8 .f 0x00).setReg16 .pc 0x0101) with currentOpcode := 0xAE } = true := by
  decide

/-- `OR n`. -/
theorem test_V67 :
    let start := ((put (machine false .dec) 0x100 [0xF6, 0x03]).setReg8 .a 0x5A)
    goesTo (step start) { (((start.setReg8 .a 0x5B).setReg8 .f 0x00).setReg16 .pc 0x0102) with currentOpcode := 0xF6 } = true := by
  decide

/-- `CP (HL)`. -/
theorem test_V71 :
    let start := ((((put (machine false .dec) 0x100 [0xBE]).setReg8 .a 0x3C).setReg16 .hl 0xC000).writeU8 0xC000 0x40)
    goesTo (step start) { ((start.setReg8 .f 0x50).setReg16 .pc 0x0101) with currentOpcode := 0xBE } = true := by
  decide

/-- `INC B`. -/
theorem test_V73 :
    let start := (((put (machine false .dec) 0x100 [0x04]).setReg8 .b 0x0F).setReg8 .f 0x10)
    goesTo (step start) { (((start.setReg8 .f 0x30).setReg8 .b 0x10).setReg16 .pc 0x0101) with currentOpcode := 0x04 } = true := by
  decide

/-- `DEC H`. -/
theorem test_V77 :
    let start := (((put (machine false .dec) 0x100 [0x25]).setReg8 .h 0x10).setReg8 .f 0x80)
    goesTo (step start) { (((start.setReg8 .f 0x60).setReg8 .h 0x0F).setReg16 .pc 0x0101) with currentOpcode := 0x25 } = true := by
  decide

/-- `INC (HL)`. -/
theorem test_V79 :
    let start := ((((put (machine false .dec) 0x100 [0x34]).setReg16 .hl 0xC000).setReg8 .f 0xF0).writeU8 0xC000 0x0F)
    goesTo (step start) { (((start.setReg8 .f 0xF0).setReg16 .pc 0x0101).writeU8 0xC000 0x10) with currentOpcode := 0x34 } = true := by
  decide

/-- `DEC (HL)`. -/
theorem test_V81 :
    let start := ((((put (machine false .dec) 0x100 [0x35]).setReg16 .hl 0xC000).setReg8 .f 0x10).writeU8 0xC000 0x01)
    goesTo (step start) { (((start.setReg8 .f 0x10).setReg16 .pc 0x0101).writeU8 0xC000 0x00) with currentOpcode := 0x35 } = true := by
  decide

/-- `ADD HL,BC`. -/
theorem test_V90 :
    let start := ((((put (machine false .dec) 0x100 [0x09]).setReg16 .hl 0x8A23).setReg16 .bc 0x0605).setReg8 .f 0x80)
    goesTo (step start) { ((((start.setReg8 .f 0xA0).setReg8 .h 0x90).setReg8 .l 0x28).setReg16 .pc 0x0101) with currentOpcode := 0x09 } = true := by
  decide

/-- `ADD HL,DE`. -/
theorem test_V93 :
    let start := ((((put (machine false .dec) 0x100 [0x19]).setReg16 .hl 0x0FFF).setReg16 .de 0x0001).setReg8 .f 0x00)
    goesTo (step start) { ((((start.setReg8 .f 0x00).setReg8 .h 0x10).setReg8 .l 0x00).setReg16 .pc 0x0101) with currentOpcode := 0x19 } = true := by
  decide

/-- `INC SP`. -/
theorem test_V95 :
    let start := ((put (machine false .dec) 0x100 [0x33]).setReg16 .sp 0xFFFF)
    goesTo (step start) { (((start.setReg8 .f 0xB0).setReg16 .sp 0x0000).setReg16 .pc 0x0101) with currentOpcode := 0x33 } = true := by
  decide

/-- `DEC DE`. -/
theorem test_V97 :
    let start := ((put (machine false .dec) 0x100 [0x1B]).setReg16 .de 0x0100)
    goesTo (step start) { ((((start.setReg8 .f 0xB0).setReg8 .d 0x00).setReg8 .e 0xFF).setReg16 .pc 0x0101) with currentOpcode := 0x1B } = true := by
  decide

/-- `NOP`. -/
theorem test_V100 :
    let start := (put (machine false .dec) 0x100 [0x00])
    goesTo (step start) { ((start.setReg8 .f 0xB0).setReg16 .pc 0x0101) with currentOpcode := 0x00 } = true := by
  decide

/-- `JP nn`. -/
theorem test_V102 :
    let start := (put (machine false .dec) 0x100 [0xC3, 0x00, 0x80])
    goesTo (step start) { ((start.setReg8 .f 0xB0).setReg16 .pc 0x8000) with currentOpcode := 0xC3 } = true := by
  decide

/-- `JP NZ,nn`. -/
theorem test_V103 :
    let start := ((put (machine false .dec) 0x100 [0xC2, 0x50, 0x01]).setReg8 .f 0x80)
    goesTo (step start) { ((start.setReg8 .f 0x80).setReg16 .pc 0x0103) with currentOpcode := 0xC2 } = true := by
  decide

/-- `JP C,nn`. -/
theorem test_V107 :
    let start := ((put (machine false .dec) 0x100 [0xDA, 0x50, 0x01]).setReg8 .f 0x10)
    goesTo (step start) { ((start.setReg8 .f 0x10).setReg16 .pc 0x0150) with currentOpcode := 0xDA } = true := by
  decide

/-- `JP (HL)`. -/
theorem test_V108 :
    let start := ((put (machine false .dec) 0x100 [0xE9]).setReg16 .hl 0x0234)
    goesTo (step start) { ((start.setReg8 .f 0xB0).setReg16 .pc 0x0234) with currentOpcode := 0xE9 } = true := by
  decide

/-- `JR e`. -/
theorem test_V111 :
    let start := (put (machine false .dec) 0x100 [0x18, 0x80])
    goesTo (step start) { ((start.setReg8 .f 0xB0).setReg16 .pc 0x0082) with currentOpcode := 0x18 } = true := by
  decide

/-- `JR NZ,e`. -/
theorem test_V114 :
    let start := ((put (machine false .dec) 0x100 [0x20, 0xFC]).setReg8 .f 0x80)
    goesTo (step start) { ((start.setReg8 .f 0x80).setReg16 .pc 0x0102) with currentOpcode := 0x20 } = true := by
  decide

/-- `JR Z,e`. -/
theorem test_V115 :
    let start := ((put (machine false .dec) 0x100 [0x28, 0x10]).setReg8 .f 0x80)
    goesTo (step start) { ((start.setReg8 .f 0x80).setReg16 .pc 0x0112) with currentOpcode := 0x28 } = true := by
  decide

/-- `CALL nn`. -/
theorem test_V118 :
    let start := (put (machine false .dec) 0x100 [0xCD, 0x34, 0x02])
    goesTo (step start) { (((((start.setReg8 .f 0xB0).setReg16 .sp 0xFFFC).setReg16 .pc 0x0234).writeU8 0xFFFC 0x03).writeU8 0xFFFD 0x01) with currentOpcode := 0xCD } = true := by
  decide

/-- `CALL Z,nn`. -/
theorem test_V119 :
    let start := ((put (machine false .dec) 0x100 [0xCC, 0x34, 0x02]).setReg8 .f 0x00)
    goesTo (step start) { ((start.setReg8 .f 0x00).setReg16 .pc 0x0103) with currentOpcode := 0xCC } = true := by
  decide

/-- `CALL NC,nn`. -/
theorem test_V120 :
    let start := ((put (machine false .dec) 0x100 [0xD4, 0x34, 0x02]).setReg8 .f 0x00)
    goesTo (step start) { (((((start.setReg8 .f 0x00).setReg16 .sp 0xFFFC).setReg16 .pc 0x0234).writeU8 0xFFFC 0x03).writeU8 0xFFFD 0x01) with currentOpcode := 0xD4 } = true := by
  decide

/-- `RET`. -/
theorem test_V123 :
    let start := ((((put (machine false .dec) 0x100 [0xC9]).setReg16 .sp 0xC000).writeU8 0xC000 0x0B).writeU8 0xC001 0x01)
    goesTo (step start) { (((start.setReg8 .f 0xB0).setReg16 .sp 0xC002).setReg16 .pc 0x010B) with currentOpcode := 0xC9 } = true := by
  decide

/-- `RET Z`. -/
theorem test_V124 :
    let start := (((((put (machine false .dec) 0x100 [0xC8]).setReg16 .sp 0xC000).setReg8 .f 0x00).writeU8 0xC000 0x0B).writeU8 0xC001 0x01)
    goesTo (step start) { ((start.setReg8 .f 0x00).setReg16 .pc 0x0101) with currentOpcode := 0xC8 } = true := by
  decide

/-- `RET C`. -/
theorem test_V126 :
    let start := (((((put (machine false .dec) 0x100 [0xD8]).setReg16 .sp 0xC000).setReg8 .f 0x10).writeU8 0xC000 0x00).writeU8 0xC001 0x90)
    goesTo (step start) { (((start.setReg8 .f 0x10).setReg16 .sp 0xC002).setReg16 .pc 0x9000) with currentOpcode := 0xD8 } = true := by
  decide

/-- `RST 0x28`. -/
theorem test_V129 :
    let start := (put (machine false .dec) 0x100 [0xEF])
    goesTo (step start) { (((((start.setReg8 .f 0xB0).setReg16 .sp 0xFFFC).setReg16 .pc 0x0028).writeU8 0xFFFC 0x01).writeU8 0xFFFD 0x01) with currentOpcode := 0xEF } = true := by
  decide

/-- `SWAP A`. -/
theorem test_V140 :
    let start := ((put (machine false .dec) 0x100 [0xCB, 0x37]).setReg8 .a 0xF1)
    goesTo (step start) { (((start.setReg8 .a 0x1F).setReg8 .f 0x00).setReg16 .pc 0x0102) with currentOpcode := 0xCB } = true := by
  decide

/-- `SWAP (HL)`. -/
theorem test_V143 :
    let start := (((put (machine false .dec) 0x100 [0xCB, 0x36]).setReg16 .hl 0xC000).writeU8 0xC000 0xA5)
    goesTo (step start) { (((start.setReg8 .f 0x00).setReg16 .pc 0x0102).writeU8 0xC000 0x5A) with currentOpcode := 0xCB } = true := by
  decide

/-- `RLC B (tier U)`. -/
theorem test_V144 :
    let start := ((put (machine false .dec) 0x100 [0xCB, 0x00]).setReg8 .b 0x85)
    goesTo (step start) { start with currentOpcode := 0xCB, run := .faulted, fault := some .unimplementedOperation } = true := by
  decide

/-- `HALT`. -/
theorem test_V152 :
    let start := (put (machine false .dec) 0x100 [0x76])
    goesTo (step start) { start with currentOpcode := 0x76, run := .faulted, fault := some .unimplementedOperation } = true := by
  decide

/-- `STOP`. -/
theorem test_V153 :
    let start := (put (machine false .dec) 0x100 [0x10, 0x00])
    goesTo (step start) { start with currentOpcode := 0x10, run := .faulted, fault := some .unimplementedOperation } = true := by
  decide

/-- `DI`. -/
theorem test_V154 :
    let start := (put (machine false .dec) 0x100 [0xF3])
    goesTo (step start) { start with currentOpcode := 0xF3, run := .faulted, fault := some .unimplementedOperation } = true := by
  decide

/-- `EI`. -/
theorem test_V155 :
    let start := (put (machine false .dec) 0x100 [0xFB])
    goesTo (step start) { start with currentOpcode := 0xFB, run := .faulted, fault := some .unimplementedOperation } = true := by
  decide

/-- `RETI`. -/
theorem test_V156 :
    let start := ((((put (machine false .dec) 0x100 [0xD9]).setReg16 .sp 0xC000).writeU8 0xC000 0x0B).writeU8 0xC001 0x01)
    goesTo (step start) { start with currentOpcode := 0xD9, run := .faulted, fault := some .unimplementedOperation } = true := by
  decide

/-- `(unassigned 0xD3)`. -/
theorem test_V157 :
    let start := (put (machine false .dec) 0x100 [0xD3])
    goesTo (step start) { start with currentOpcode := 0xD3, run := .faulted, fault := some .unimplementedOperation } = true := by
  decide

/-- `RLCA`. -/
theorem test_V160 :
    let start := ((put (machine true .dec) 0x100 [0x07]).setReg8 .a 0x85)
    goesTo (step start) { (((start.setReg8 .a 0x0B).setReg8 .f 0x10).setReg16 .pc 0x0101) with currentOpcode := 0x07 } = true := by
  decide

/-- `RRCA`. -/
theorem test_V161 :
    let start := ((put (machine true .dec) 0x100 [0x0F]).setReg8 .a 0x3B)
    goesTo (step start) { (((start.setReg8 .a 0x9D).setReg8 .f 0x10).setReg16 .pc 0x0101) with currentOpcode := 0x0F } = true := by
  decide

/-- `RLA`. -/
theorem test_V162 :
    let start := (((put (machine true .dec) 0x100 [0x17]).setReg8 .a 0x95).setReg8 .f 0x10)
    goesTo (step start) { (((start.setReg8 .a 0x2B).setReg8 .f 0x10).setReg16 .pc 0x0101) with currentOpcode := 0x17 } = true := by
  decide

/-- `RRA`. -/
theorem test_V163 :
    let start := (((put (machine true .dec) 0x100 [0x1F]).setReg8 .a 0x81).setReg8 .f 0x00)
    goesTo (step start) { (((start.setReg8 .a 0x40).setReg8 .f 0x10).setReg16 .pc 0x0101) with currentOpcode := 0x1F } = true := by
  decide

/-- `DAA`. -/
theorem test_V164 :
    let start := (((put (machine true .dec) 0x100 [0x27]).setReg8 .a 0x7D).setReg8 .f 0x00)
    goesTo (step start) { (((start.setReg8 .a 0x83).setReg8 .f 0x00).setReg16 .pc 0x0101) with currentOpcode := 0x27 } = true := by
  decide

/-- `DAA`. -/
theorem test_V165 :
    let start := (((put (machine true .dec) 0x100 [0x27]).setReg8 .a 0x9A).setReg8 .f 0x00)
    goesTo (step start) { (((start.setReg8 .a 0x00).setReg8 .f 0x90).setReg16 .pc 0x0101) with currentOpcode := 0x27 } = true := by
  decide

/-- `CPL`. -/
theorem test_V166 :
    let start := (((put (machine true .dec) 0x100 [0x2F]).setReg8 .a 0x35).setReg8 .f 0x00)
    goesTo (step start) { (((start.setReg8 .a 0xCA).setReg8 .f 0x60).setReg16 .pc 0x0101) with currentOpcode := 0x2F } = true := by
  decide

/-- `SCF`. -/
theorem test_V167 :
    let start := ((put (machine true .dec) 0x100 [0x37]).setReg8 .f 0xE0)
    goesTo (step start) { ((start.setReg8 .f 0x90).setReg16 .pc 0x0101) with currentOpcode := 0x37 } = true := by
  decide

/-- `CCF`. -/
theorem test_V168 :
    let start := ((put (machine true .dec) 0x100 [0x3F]).setReg8 .f 0x90)
    goesTo (step start) { ((start.setReg8 .f 0x80).setReg16 .pc 0x0101) with currentOpcode := 0x3F } = true := by
  decide

/-- `ADD SP,e`. -/
theorem test_V170 :
    let start := ((put (machine true .dec) 0x100 [0xE8, 0xFF]).setReg16 .sp 0x0005)
    goesTo (step start) { (((start.setReg8 .f 0x30).setReg16 .sp 0x0004).setReg16 .pc 0x0102) with currentOpcode := 0xE8 } = true := by
  decide

/-- `LD HL,SP+e`. -/
theorem test_V171 :
    let start := ((put (machine true .dec) 0x100 [0xF8, 0x02]).setReg16 .sp 0xFFF8)
    goesTo (step start) { ((((start.setReg8 .f 0x00).setReg8 .h 0xFF).setReg8 .l 0xFA).setReg16 .pc 0x0102) with currentOpcode := 0xF8 } = true := by
  decide

/-- `RLC B`. -/
theorem test_V172 :
    let start := ((put (machine true .dec) 0x100 [0xCB, 0x00]).setReg8 .b 0x85)
    goesTo (step start) { (((start.setReg8 .f 0x10).setReg8 .b 0x0B).setReg16 .pc 0x0102) with currentOpcode := 0xCB } = true := by
  decide

/-- `RRC C`. -/
theorem test_V173 :
    let start := ((put (machine true .dec) 0x100 [0xCB, 0x09]).setReg8 .c 0x01)
    goesTo (step start) { (((start.setReg8 .f 0x10).setReg8 .c 0x80).setReg16 .pc 0x0102) with currentOpcode := 0xCB } = true := by
  decide

/-- `RL L`. -/
theorem test_V174 :
    let start := (((put (machine true .dec) 0x100 [0xCB, 0x15]).setReg8 .l 0x80).setReg8 .f 0x00)
    goesTo (step start) { (((start.setReg8 .f 0x90).setReg8 .l 0x00).setReg16 .pc 0x0102) with currentOpcode := 0xCB } = true := by
  decide

/-- `RR A`. -/
theorem test_V175 :
    let start := (((put (machine true .dec) 0x100 [0xCB, 0x1F]).setReg8 .a 0x01).setReg8 .f 0x00)
    goesTo (step start) { (((start.setReg8 .a 0x00).setReg8 .f 0x90).setReg16 .pc 0x0102) with currentOpcode := 0xCB } = true := by
  decide

/-- `SLA D`. -/
theorem test_V176 :
    let start := ((put (machine true .dec) 0x100 [0xCB, 0x22]).setReg8 .d 0x80)
    goesTo (step start) { (((start.setReg8 .f 0x90).setReg8 .d 0x00).setReg16 .pc 0x0102) with currentOpcode := 0xCB } = true := by
  decide

/-- `SRA A`. -/
theorem test_V177 :
    let start := ((put (machine true .dec) 0x100 [0xCB, 0x2F]).setReg8 .a 0x8A)
    goesTo (step start) { (((start.setReg8 .a 0xC5).setReg8 .f 0x00).setReg16 .pc 0x0102) with currentOpcode := 0xCB } = true := by
  decide

/-- `SRL (HL)`. -/
theorem test_V179 :
    let start := (((put (machine true .dec) 0x100 [0xCB, 0x3E]).setReg16 .hl 0xC000).writeU8 0xC000 0xFF)
    goesTo (step start) { (((start.setReg8 .f 0x10).setReg16 .pc 0x0102).writeU8 0xC000 0x7F) with currentOpcode := 0xCB } = true := by
  decide

/-- `BIT 4,(HL)`. -/
theorem test_V182 :
    let start := ((((put (machine true .dec) 0x100 [0xCB, 0x66]).setReg16 .hl 0xC000).setReg8 .f 0x00).writeU8 0xC000 0x10)
    goesTo (step start) { ((start.setReg8 .f 0x20).setReg16 .pc 0x0102) with currentOpcode := 0xCB } = true := by
  decide

/-- `RES 7,A`. -/
theorem test_V183 :
    let start := ((put (machine true .dec) 0x100 [0xCB, 0xBF]).setReg8 .a 0xFF)
    goesTo (step start) { (((start.setReg8 .a 0x7F).setReg8 .f 0xB0).setReg16 .pc 0x0102) with currentOpcode := 0xCB } = true := by
  decide

/-- `SET 3,(HL)`. -/
theorem test_V184 :
    let start := ((put (machine true .dec) 0x100 [0xCB, 0xDE]).setReg16 .hl 0xC000)
    goesTo (step start) { (((start.setReg8 .f 0xB0).setReg16 .pc 0x0102).writeU8 0xC000 0x08) with currentOpcode := 0xCB } = true := by
  decide

/-! ## Faults, the load and the host: spec/95_test_vectors.md section 2.11 -/

/-- V200: a step before any load. -/
theorem test_V200 : step State.powerOn = .refused .notReady := rfl

/-- V206: pc at the first address past the program region. -/
theorem test_V206 :
    let start := (machine false .dec).setReg16 .pc 0x8000
    goesTo (step start) { start with run := .faulted, fault := some .outOfRangePC } = true := by
  decide

/-- V209: the operand byte is past the program region. -/
theorem test_V209 :
    let start := put ((machine false .dec).setReg16 .pc 0x7FFF) 0x7FFF [0x3E, 0x77]
    goesTo (step start) { (start.setReg8 .a 0x77).setReg16 .pc 0x8001 with currentOpcode := 0x3E } =
      true := by
  decide

/-- V212: a host write does not clear the fault. -/
theorem test_V212 :
    step (((machine false .dec).takeFault .outOfRangePC).setReg16 .pc 0x0100) =
      .refused .notReady := rfl

/-- V215: a table whose entry calls `Adc16` after a write; the write is discarded. -/
theorem test_V215 :
    let start := put (machine false .dec) 0x100 [0x09]
    goesTo (stepWith (fun _ s => handlerOutcome (adc16 0 0 (s.setReg8 .a 0x55))) start)
      { start with currentOpcode := 0x09, run := .faulted, fault := some .unimplementedOperation } =
      true := by
  decide

/-- V216: the host's write of F is masked. -/
theorem test_V216 : ((machine false .dec).setReg8 .f 0xFF).reg16 .af = 0x01F0 := by decide

/-- The host writes a register in every run state (spec/00_scope.md R11), and the run state stays. -/
theorem test_host_writes_registers_when_unloaded :
    (perform (some { machine false .dec with run := .unloaded }) (.writeReg8 .f 0xFF)) =
      (some { (machine false .dec).setReg8 .f 0xF0 with run := .unloaded }, .ok) ∧
    (perform (some { machine false .dec with run := .unloaded }) (.writeReg16 .pc 0x8000)) =
      (some { (machine false .dec).setReg16 .pc 0x8000 with run := .unloaded }, .ok) := by
  decide

/-- No handler that keeps the contract leaves low bits in F (spec/10_state.md R27): one that puts
`0x000F` into AF past the write port does not keep it. -/
theorem test_contract_refuses_unmasked_F :
    ¬ ObeysContract (fun s => .completes { s with af := 0x000F }) := fun h =>
  absurd ((h (machine false .dec) _ rfl).keeps.low (by decide)) (by decide)

/-- Nor does one that puts an entry into memory past the accessors (R175). -/
theorem test_contract_refuses_memory_outside_the_space :
    ¬ ObeysContract (fun s => .completes { s with mem := [(65536, 1)] }) := fun h =>
  absurd ((h (machine false .dec) _ rfl).keeps.wf (by decide)) (by decide)

/-- V217: a second load leaves the bytes past its image alone. -/
theorem test_V217 :
    let s := ((machine false .dec).writeU8 0xC000 0x55).loadRom [1, 2, 3, 4]
    (s.readU8 0xC000, s.readU8 0x0003, s.pc, s.run) = (0x55, 0x04, 0x0100, .ready) := by
  decide

/-- The first step after a load of no bytes is a `NOP` (V202; log 14). -/
theorem test_V202 :
    answers (step ((machine false .dec).loadRom []))
      (fun t => t.pc = 0x0101 ∧ t.currentOpcode = 0x00 ∧ t.run = .ready) = true := by
  decide

/-- An instruction placed by `withFetchWord` runs in the very next step: `LD A,n`. -/
theorem test_withFetchWord_runs :
    answers (step (State.reset.withFetchWord 16 0x423E))
      (fun t => t.reg8 .a = 0x42 ∧ t.pc = 0x0102) = true := by
  decide

/-- From a state that may not step, too. -/
theorem test_withFetchWord_makes_ready :
    answers (step ((((machine false .dec).setReg16 .pc 0x9000).takeFault .outOfRangePC).withFetchWord 8
      0x3C)) (fun t => t.reg8 .a = 0x02 ∧ t.pc = 0x0101) = true := by
  decide

/-- `Add8`, `Sub8` and the nibble exchange on the spec's corner values (R139, R140, R148). -/
theorem test_flag_engine_corners :
    add8 0xFF 0x01 = ⟨0x00, 0xB0⟩ ∧ sub8 0x00 0x01 = ⟨0xFF, 0x70⟩ ∧ swap8 0xF1 = ⟨0x1F, 0x00⟩ ∧
      inc8 0x00 0xFF = ⟨0x00, 0xA0⟩ ∧ dec8 0x10 0x01 = ⟨0x00, 0xD0⟩ ∧ and8 0 0 = ⟨0x00, 0xA0⟩ := by
  decide

/-! ## Witnesses: states and operands that meet a statement's hypotheses -/

theorem witness_DecodeOfEncode :
    Instr.WellFormed (.ld_HL_nn 0xFF00) = true ∧
      decode (encode (.ld_HL_nn 0xFF00) ++ [0x76]) = .ok (.ld_HL_nn 0xFF00, [0x76]) :=
  ⟨rfl, rfl⟩

theorem witness_EncodeOfDecode : decode [0xCB, 0xFF, 0x00] = .ok (.set_7_A, [0x00]) := rfl

theorem witness_DecodeTotalByLength :
    lengthOf 0xCD = 3 ∧ decode [0xCD, 0xFF, 0xFF] = .ok (.call_nn 0xFFFF, []) ∧
      lengthOf 0xCD ≤ [(0xFF : Byte), 0xFF].length + 1 :=
  ⟨rfl, rfl, by decide⟩

theorem witness_CanonicalMemoriesAreEqual :
    Memory.wf [(0x0100, 0x3C), (0xFFFF, 0x01)] ∧
      ∀ a, Memory.read [(0x0100, 0x3C), (0xFFFF, 0x01)] a =
        Memory.read [(0x0100, 0x3C), (0xFFFF, 0x01)] a :=
  ⟨by decide, fun _ => rfl⟩

theorem witness_DecimalAdjustGivesDecimalArithmetic :
    99 < 100 ∧ (daa8 (add8 (packedDecimal 99) (packedDecimal 99)).flags
      (add8 (packedDecimal 99) (packedDecimal 99)).result).result = 0x98 := by
  decide

/-- SBC_ADJUST at `dec`: the second hypothesis has no case. -/
theorem witness_SubtractWithCarryByParameter_dec :
    let s := (machine false .dec).setReg8 .f 0x10
    (s.params.sbcAdjust = .dec →
      (0xFF : Byte) = (AluOperand.imm 0x00).value s - BitVec.ofNat 8 (flagC (s.reg8 .f)).toNat) ∧
    (s.params.sbcAdjust = .inc →
      (0xFF : Byte) = (AluOperand.imm 0x00).value s + BitVec.ofNat 8 (flagC (s.reg8 .f)).toNat) := by
  decide

/-- SBC_ADJUST at `inc`. -/
theorem witness_SubtractWithCarryByParameter_inc :
    let s := (machine false .inc).setReg8 .f 0x10
    (s.params.sbcAdjust = .dec →
      (0x00 : Byte) = (AluOperand.imm 0xFF).value s - BitVec.ofNat 8 (flagC (s.reg8 .f)).toNat) ∧
    (s.params.sbcAdjust = .inc →
      (0x00 : Byte) = (AluOperand.imm 0xFF).value s + BitVec.ofNat 8 (flagC (s.reg8 .f)).toNat) := by
  decide

/-- After reset Zero and Carry are set. -/
theorem witness_CallsPushTheReturnAddress :
    (machine false .dec).cond .z = true ∧ (machine false .dec).cond .c = true ∧
      ((machine false .dec).setReg8 .f 0).cond .nz = true ∧
      ((machine false .dec).setReg8 .f 0).cond .nc = true := by
  decide

theorem witness_ReturnsPopTheReturnAddress :
    (Instr.retCC .z) ∈ ((.ret :: if (machine false .dec).cond .z then [.retCC .z] else []) :
      List Instr) := by
  decide

theorem witness_CallsAndReturnsNotTaken :
    (machine false .dec).cond .nz = false ∧ (machine false .dec).cond .nc = false ∧
      ((machine false .dec).setReg8 .f 0).cond .z = false ∧
      ((machine false .dec).setReg8 .f 0).cond .c = false := by
  decide

theorem witness_UnimplementedWithoutTheExtension :
    State.reset.params.ext = false ∧ ShiftOp.rlc ≠ .swap := ⟨rfl, by decide⟩

/-- The statements with EXT_LR35902: AccumulatorRotates, AccumulatorAndCarryInstructions,
StackPointerPlusDisplacement, PrefixedRotatesAndShifts and BitOperations. -/
theorem witness_extension : (machine true .dec).params.ext = true := rfl

/-- The last address an opcode may be fetched from. -/
theorem witness_StepRunsTheDecodedInstruction :
    let s := (machine false .dec).setReg16 .pc 0x7FFF
    s.run = .ready ∧ s.stepState = .idle ∧ s.pc.toNat < 0x8000 ∧
      decode [s.readU8 s.pc, s.readU8 (s.pc + 1), s.readU8 (s.pc + 2)] = .ok (.nop, [0x00, 0x00]) :=
  ⟨rfl, rfl, by decide, rfl⟩

/-- Both sides of the bound. -/
theorem witness_GuardRaisesOutOfRangePC :
    let s := (machine false .dec).setReg16 .pc 0x8000
    let u := (machine false .dec).setReg16 .pc 0x7FFF
    (s.run = .ready ∧ s.stepState = .idle ∧ 0x8000 ≤ s.pc.toNat) ∧
      u.run = .ready ∧ u.stepState = .idle ∧ u.pc.toNat < 0x8000 ∧ u.fault = none ∧
      goesTo (step u) { u with pc := 0x8000 } = true := by
  decide

theorem witness_FetchSetsCurrentOpcode :
    let s := put (machine false .dec) 0x100 [0x3C]
    s.pc.toNat < 0x8000 ∧
      goesTo (step s) { ((s.setReg8 .a 0x02).setReg8 .f 0x10).advancePC 1 with currentOpcode := 0x3C } =
        true := by
  decide

/-- One state for each clause. -/
theorem witness_StepAnswersExactlyWhenReady :
    ((machine false .dec).run = .ready ∧ (machine false .dec).stepState = .idle) ∧
      State.powerOn.run ≠ .ready ∧
      (machine false .dec).beginStep.run = .ready ∧ (machine false .dec).beginStep.stepState ≠ .idle := by
  decide

/-- A step of each kind that leaves the machine faulted. -/
theorem witness_FaultsArePrecise :
    let s := put (machine false .dec) 0x100 [0x76]
    let u := (machine false .dec).setReg16 .pc 0xFFFF
    goesTo (step s) { s with
      currentOpcode := 0x76, run := .faulted, fault := some .unimplementedOperation } = true ∧
    goesTo (step u) { u with run := .faulted, fault := some .outOfRangePC } = true := by
  decide

/-- A table other than the reference table that keeps the contract, and raises. -/
theorem witness_FaultsArePrecise_table :
    (∀ op, ObeysContract ((fun _ _ => .raises : DispatchTable) op)) ∧
      goesTo (stepWith (fun _ _ => .raises) (machine false .dec)) { machine false .dec with
        run := .faulted, fault := some .unimplementedOperation } = true :=
  ⟨fun _ _ _ h => (nomatch h), by decide⟩

theorem witness_NoInstructionReadsCurrentOpcode :
    exec .nop (machine false .dec) = .next ((machine false .dec).advancePC 1) := rfl

theorem witness_StepKeepsTheInvariant :
    (machine false .dec).Inv ∧
      goesTo (step (machine false .dec)) { machine false .dec with pc := 0x0101 } = true := by
  decide

/-- A table other than the reference table that keeps the contract, and completes. -/
theorem witness_StepKeepsTheInvariant_table :
    (∀ op, ObeysContract ((fun _ s => .completes (s.setReg8 .f 0xFF) : DispatchTable) op)) ∧
      (machine false .dec).Inv ∧
      goesTo (stepWith (fun _ s => .completes (s.setReg8 .f 0xFF)) (machine false .dec))
        ((machine false .dec).setReg8 .f 0xF0) = true :=
  ⟨fun _ _ _ h => HandlerOutcome.completes.inj h ▸ Writes.refl.setReg8 .f 0xFF, by decide, by decide⟩

/-- The longest image that is accepted and the shortest that is refused. -/
theorem witness_RomLoad :
    (List.replicate 32768 (0xFF : Byte)).length ≤ 32768 ∧
      32768 < (List.replicate 32769 (0xFF : Byte)).length := by
  rw [List.length_replicate, List.length_replicate]
  decide

theorem witness_FaultIsSticky :
    ((machine false .dec).takeFault .outOfRangePC).run = .faulted ∧
      (∀ image, Transaction.step ≠ .loadROM image) ∧ Transaction.step ≠ .destroyMachine :=
  ⟨rfl, fun _ h => (nomatch h), by decide⟩

theorem witness_HostKeepsTheInvariant :
    (∀ s, some (machine false .dec) = some s → s.Inv) ∧
      (perform (some (machine false .dec)) (.writeReg8 .f 0xFF)).1 =
        some ((machine false .dec).setReg8 .f 0xFF) := by
  refine ⟨fun s h => ?_, rfl⟩
  cases h
  decide

end Sys2Proof.Tests
end

section
/-!
PROOFS. The Register File (spec/10_state.md section 2): each pair that has halves is its two halves side
by side, so a write through one view is read through the other.
-/

namespace Sys2Proof.Machine

/-! ## The two halves of a pair -/

theorem reg16_eq_append_halves {p : Reg16} {hi lo : Reg8} (h : halves p = [hi, lo]) (s : State) :
    s.reg16 p = s.reg8 hi ++ s.reg8 lo := by
  cases p <;> cases h <;> exact (joinBytes_hiByte_loByte _).symm

theorem half_hi_ne_f {p : Reg16} {hi lo : Reg8} (h : halves p = [hi, lo]) : hi ≠ .f := by
  cases p <;> cases h <;> decide

theorem half_hi_ne_lo {p : Reg16} {hi lo : Reg8} (h : halves p = [hi, lo]) : hi ≠ lo := by
  cases p <;> cases h <;> decide

/-! ## The halves after a write of the pair -/

theorem reg8_setReg16_hi {p : Reg16} {hi lo : Reg8} (h : halves p = [hi, lo]) (s : State) (w : Word) :
    (s.setReg16 p w).reg8 hi = hiByte w := by
  cases p <;> cases h
  case af => exact hiByte_maskAF w
  all_goals rfl

theorem reg8_setReg16_lo {p : Reg16} {hi lo : Reg8} (h : halves p = [hi, lo]) (hp : p ≠ .af)
    (s : State) (w : Word) : (s.setReg16 p w).reg8 lo = loByte w := by
  cases p <;> cases h
  case af => exact absurd rfl hp
  all_goals rfl

/-- The write port of AF masks the half F (spec/10_state.md R26). -/
theorem reg8_f_setReg16_af (s : State) (w : Word) :
    (s.setReg16 .af w).reg8 .f = loByte w &&& 0xF0 :=
  loByte_maskAF w

/-! ## The pair after a write of a half -/

theorem reg16_setReg8_hi {p : Reg16} {hi lo : Reg8} (h : halves p = [hi, lo]) (s : State) (v : Byte) :
    (s.setReg8 hi v).reg16 p = v ++ s.reg8 lo := by
  rw [reg16_eq_append_halves h, reg8_setReg8_same s (half_hi_ne_f h),
    reg8_setReg8_ne s (half_hi_ne_lo h).symm]

theorem reg16_setReg8_lo {p : Reg16} {hi lo : Reg8} (h : halves p = [hi, lo]) (hlo : lo ≠ .f)
    (s : State) (v : Byte) : (s.setReg8 lo v).reg16 p = s.reg8 hi ++ v := by
  rw [reg16_eq_append_halves h, reg8_setReg8_ne s (half_hi_ne_lo h), reg8_setReg8_same s hlo]

/-- A write of F reaches the pair masked (spec/10_state.md R26). -/
theorem reg16_af_setReg8_f (s : State) (v : Byte) :
    (s.setReg8 .f v).reg16 .af = s.reg8 .a ++ (v &&& 0xF0) := by
  rw [reg16_eq_append_halves rfl, reg8_setReg8_ne s (by decide), reg8_setReg8_f]

/-- Settles O6: each clause is the rule of its half, at AF, BC, DE and HL. -/
theorem pairAndHalvesAreOneStorage : Obligations.PairAndHalvesAreOneStorage := by
  unfold Obligations.PairAndHalvesAreOneStorage
  constructor
  · intro s w
    exact ⟨reg8_setReg16_hi rfl s w, reg8_f_setReg16_af s w,
      reg8_setReg16_hi rfl s w, reg8_setReg16_lo rfl (by decide) s w,
      reg8_setReg16_hi rfl s w, reg8_setReg16_lo rfl (by decide) s w,
      reg8_setReg16_hi rfl s w, reg8_setReg16_lo rfl (by decide) s w⟩
  · intro s v
    exact ⟨reg16_setReg8_hi rfl s v, reg16_af_setReg8_f s v,
      reg16_setReg8_hi rfl s v, reg16_setReg8_lo rfl (by decide) s v,
      reg16_setReg8_hi rfl s v, reg16_setReg8_lo rfl (by decide) s v,
      reg16_setReg8_hi rfl s v, reg16_setReg8_lo rfl (by decide) s v⟩

end Sys2Proof.Machine
end

section
/-!
PROOFS. The memory accessors (spec/20_memory.md): what each one writes reads back, and what it leaves
alone. Every accessor that writes is one `writeU8` or two.
-/

namespace Sys2Proof.Machine

/-! ## One byte -/

theorem writeU8_keepsMemoryBut (s : State) (a : Word) (v : Byte) :
    s.KeepsMemoryBut (s.writeU8 a v) [a] :=
  fun _ hb => readU8_writeU8_ne s v (List.ne_of_not_mem_cons hb)

theorem writeU8_eq_setMem (s : State) (a : Word) (v : Byte) :
    s.writeU8 a v = { s with mem := (s.writeU8 a v).mem } := rfl

/-- A byte is negative from 128 on (spec/20_memory.md R64). -/
theorem readS8_eq (s : State) (a : Word) :
    s.readS8 a = if (s.readU8 a).toNat ≤ 127 then ((s.readU8 a).toNat : Int)
      else (s.readU8 a).toNat - 256 := by
  rw [State.readS8, BitVec.toInt_eq_toNat_cond]
  by_cases h : (s.readU8 a).toNat ≤ 127
  · rw [if_pos (by omega), if_pos h]
  · rw [if_neg (by omega), if_neg h]
    rfl

/-- Settles O7: the rules of one `writeU8`, and the sign of a byte. -/
theorem writeU8SetsOneByte : Obligations.WriteU8SetsOneByte := by
  unfold Obligations.WriteU8SetsOneByte
  intro s a v
  exact ⟨readU8_writeU8_same s a v, writeU8_keepsMemoryBut s a v, writeU8_eq_setMem s a v,
    readS8_eq s a⟩

/-! ## A word -/

theorem word_ne_add_one (w : Word) : w ≠ w + 1 := by bv_omega

/-- The second write is at another address, at `0xFFFF` too, so the low byte survives it. -/
theorem writeU16Bytes_low (s : State) (a : Word) (hi lo : Byte) :
    (s.writeU16Bytes a hi lo).readU8 a = lo := by
  rw [State.writeU16Bytes, readU8_writeU8_ne _ _ (word_ne_add_one a), readU8_writeU8_same]

theorem writeU16Bytes_high (s : State) (a : Word) (hi lo : Byte) :
    (s.writeU16Bytes a hi lo).readU8 (a + 1) = hi :=
  readU8_writeU8_same ..

theorem writeU16Bytes_keepsMemoryBut (s : State) (a : Word) (hi lo : Byte) :
    s.KeepsMemoryBut (s.writeU16Bytes a hi lo) [a, a + 1] := by
  intro b hb
  have hlo : b ≠ a := List.ne_of_not_mem_cons hb
  have hhi : b ∉ [a + 1] := List.not_mem_of_not_mem_cons hb
  rw [State.writeU16Bytes, writeU8_keepsMemoryBut _ _ _ b hhi, readU8_writeU8_ne _ _ hlo]

theorem writeU16Bytes_eq_setMem (s : State) (a : Word) (hi lo : Byte) :
    s.writeU16Bytes a hi lo = { s with mem := (s.writeU16Bytes a hi lo).mem } := rfl

theorem writeU16_joinBytes (s : State) (a : Word) (hi lo : Byte) :
    s.writeU16 a (joinBytes hi lo) = s.writeU16Bytes a hi lo := by
  rw [State.writeU16, hiByte_joinBytes, loByte_joinBytes]

theorem readU16_writeU16Bytes (s : State) (a : Word) (hi lo : Byte) :
    (s.writeU16Bytes a hi lo).readU16 a = joinBytes hi lo := by
  rw [State.readU16, writeU16Bytes_high, writeU16Bytes_low]

theorem readU16_writeU16 (s : State) (a v : Word) : (s.writeU16 a v).readU16 a = v := by
  rw [State.writeU16, readU16_writeU16Bytes, joinBytes_hiByte_loByte]

/-- Settles O8: the two bytes by the address of each write, the word by joining its halves. -/
theorem writeU16IsLittleEndian : Obligations.WriteU16IsLittleEndian := by
  unfold Obligations.WriteU16IsLittleEndian
  intro s a hi lo v
  exact ⟨writeU16Bytes_low s a hi lo, writeU16Bytes_high s a hi lo,
    writeU16Bytes_keepsMemoryBut s a hi lo, writeU16Bytes_eq_setMem s a hi lo,
    writeU16_joinBytes s a hi lo, readU16_writeU16 s a v⟩

/-! ## Arithmetic in place -/

theorem readU8_addU8 (s : State) (a : Word) (v : Byte) :
    (s.addU8 a v).readU8 a = BitVec.ofNat 8 ((s.readU8 a).toNat + v.toNat) := by
  rw [State.addU8, readU8_writeU8_same, BitVec.add_def]

/-- The 256 is added before the operand is taken away, so the natural-number difference is exact. -/
theorem readU8_subU8 (s : State) (a : Word) (v : Byte) :
    (s.subU8 a v).readU8 a = BitVec.ofNat 8 ((s.readU8 a).toNat + 256 - v.toNat) := by
  have hv := v.isLt
  rw [State.subU8, readU8_writeU8_same, BitVec.sub_def]
  congr 1
  omega

/-- Settles O9: each helper is one `writeU8` of the sum or the difference. -/
theorem addU8AndSubU8WorkInPlace : Obligations.AddU8AndSubU8WorkInPlace := by
  unfold Obligations.AddU8AndSubU8WorkInPlace
  intro s a v
  exact ⟨readU8_addU8 s a v, readU8_subU8 s a v, writeU8_keepsMemoryBut s a _,
    writeU8_keepsMemoryBut s a _, writeU8_eq_setMem s a _, writeU8_eq_setMem s a _⟩

/-! ## IE and IF -/

theorem ieAddr_ne_ifAddr : Config.ieAddr ≠ Config.ifAddr := by decide

theorem getIF_setIE (s : State) (v : Byte) : (s.setIE v).getIF = s.getIF :=
  readU8_writeU8_ne s v ieAddr_ne_ifAddr.symm

theorem getIE_setIF (s : State) (v : Byte) : (s.setIF v).getIE = s.getIE :=
  readU8_writeU8_ne s v ieAddr_ne_ifAddr

/-- Settles O10: the accessors are `readU8` and `writeU8` at two different addresses. -/
theorem interruptRegistersArePlainBytes : Obligations.InterruptRegistersArePlainBytes := by
  unfold Obligations.InterruptRegistersArePlainBytes
  intro s v
  exact ⟨rfl, rfl, rfl, rfl, readU8_writeU8_same s _ v, readU8_writeU8_same s _ v,
    getIF_setIE s v, getIE_setIF s v⟩

end Sys2Proof.Machine
end

section
/-!
PROOFS. The Flag Engine (spec/40_flag_engine_alu.md): each predicate is a comparison of numbers, because a
mask cuts a field of bits out of a number, and each operation's flags follow from its predicates.
-/

namespace Sys2Proof.Machine

/-! ## A mask as division and remainder -/

/-- The mask of `w` bits from bit `k` on. -/
theorem nat_and_mask_shiftLeft (n k w : Nat) :
    n &&& (2 ^ w - 1) <<< k = n / 2 ^ k % 2 ^ w * 2 ^ k := by
  rw [← Nat.and_two_pow_sub_one_eq_mod, ← Nat.shiftRight_eq_div_pow, ← Nat.shiftLeft_eq]
  apply Nat.eq_of_testBit_eq
  intro i
  by_cases hi : k ≤ i
  · simp [hi, Bool.and_comm]
  · simp [hi]

theorem nat_and_0xF (n : Nat) : n &&& 0xF = n % 16 :=
  Nat.and_two_pow_sub_one_eq_mod n 4

theorem nat_and_0x10 (n : Nat) : n &&& 0x10 = n / 16 % 2 * 16 :=
  nat_and_mask_shiftLeft n 4 1

theorem nat_and_0xF00 (n : Nat) : n &&& 0xF00 = n / 256 % 16 * 256 :=
  nat_and_mask_shiftLeft n 8 4

theorem nat_and_0x1000 (n : Nat) : n &&& 0x1000 = n / 4096 % 2 * 4096 :=
  nat_and_mask_shiftLeft n 12 1

theorem nat_and_0xFF00 (n : Nat) : n &&& 0xFF00 = n / 256 % 256 * 256 :=
  nat_and_mask_shiftLeft n 8 8

/-! ## The predicates -/

theorem zeroFlag_eq_decide (r : Byte) : zeroFlag r = decide (r = 0) := rfl

/-- Two nibbles add up to less than 32, so bit 4 of the sum is set from 16 on (R132). -/
theorem halfCarryAdd8_eq_decide (a b : Byte) :
    halfCarryAdd8 a b = decide (15 < a.toNat % 16 + b.toNat % 16) := by
  rw [halfCarryAdd8, nat_and_0xF, nat_and_0xF, nat_and_0x10, Bool.eq_iff_iff, bne_iff_ne,
    decide_eq_true_iff]
  omega

/-- As `halfCarryAdd8_eq_decide`, 256 times as large: bits 11 to 8 and bit 12 (R133). -/
theorem halfCarryAdd16_eq_decide (a b : Word) :
    halfCarryAdd16 a b = decide (15 < a.toNat / 256 % 16 + b.toNat / 256 % 16) := by
  rw [halfCarryAdd16, nat_and_0xF00, nat_and_0xF00, nat_and_0x1000, Bool.eq_iff_iff, bne_iff_ne,
    decide_eq_true_iff]
  omega

/-- The sum of two bytes is below 65536, so the mask of the high byte misses no carry (R134). -/
theorem carryAdd8_eq_decide (a b : Byte) :
    carryAdd8 (a.toNat + b.toNat) = decide (255 < a.toNat + b.toNat) := by
  have ha := a.isLt
  have hb := b.isLt
  rw [carryAdd8, nat_and_0xFF00, Bool.eq_iff_iff, bne_iff_ne, decide_eq_true_iff]
  omega

/-- The 16-bit difference of two nibbles is below 16, or negative and so at least 65521, and only then
is bit 4 set (R137). -/
theorem borrowHalfCarry_eq_decide (a b : Byte) :
    borrowHalfCarry a b = decide (a.toNat % 16 < b.toNat % 16) := by
  have low (v : Byte) : (v.setWidth 16 &&& 0xF).toNat = v.toNat % 16 := by
    rw [BitVec.toNat_and, BitVec.toNat_setWidth_of_le (by decide)]
    exact nat_and_0xF v.toNat
  have bit : (0x10 : Word).toNat = 0x10 := rfl
  rw [borrowHalfCarry, Bool.eq_iff_iff, bne_iff_ne, decide_eq_true_iff, BitVec.toNat_ne,
    BitVec.toNat_and, BitVec.toNat_sub, low, low, bit, nat_and_0x10, BitVec.ofNat_eq_ofNat,
    BitVec.toNat_zero]
  omega

/-- Settles O12: each predicate is the truth value of its comparison. -/
theorem flagPredicatesAreArithmetic : Obligations.FlagPredicatesAreArithmetic := by
  unfold Obligations.FlagPredicatesAreArithmetic
  refine ⟨fun r => ?_, fun a b => ?_, fun a b => ?_, fun a b => ?_, fun a b => ?_, fun a b => ?_⟩
  · rw [zeroFlag_eq_decide, decide_eq_true_iff, BitVec.toNat_eq]
    rfl
  · rw [halfCarryAdd8_eq_decide, decide_eq_true_iff]
  · rw [halfCarryAdd16_eq_decide, decide_eq_true_iff]
  · rw [carryAdd8_eq_decide, decide_eq_true_iff]
  · rw [borrowCarry, decide_eq_true_iff]
  · rw [borrowHalfCarry_eq_decide, decide_eq_true_iff]

/-! ## Add8 and Sub8 -/

theorem zeroFlag_ofNat (n : Nat) : zeroFlag (BitVec.ofNat 8 n) = decide (n % 256 = 0) := by
  rw [zeroFlag_eq_decide, decide_eq_decide, BitVec.toNat_eq]
  simp

theorem zeroFlag_sub (x y : Byte) : zeroFlag (x - y) = decide (x = y) := by
  rw [zeroFlag_eq_decide, decide_eq_decide]
  exact sub_eq_zero

theorem add8_flags (x y : Byte) :
    (add8 x y).flags = flagByte (decide ((x.toNat + y.toNat) % 256 = 0)) false
      (decide (15 < x.toNat % 16 + y.toNat % 16)) (decide (255 < x.toNat + y.toNat)) := by
  simp only [add8, zeroFlag_ofNat, halfCarryAdd8_eq_decide, carryAdd8_eq_decide]

theorem sub8_result (x y : Byte) :
    (sub8 x y).result = BitVec.ofNat 8 (x.toNat + 256 - y.toNat) := by
  have hy := y.isLt
  simp only [sub8, BitVec.sub_def]
  congr 1
  omega

theorem sub8_flags (x y : Byte) :
    (sub8 x y).flags = flagByte (decide (x = y)) true (decide (x.toNat % 16 < y.toNat % 16))
      (decide (x.toNat < y.toNat)) := by
  simp only [sub8, zeroFlag_sub, borrowHalfCarry_eq_decide, borrowCarry]

/-- Settles O13: the flags are the predicates' comparisons, the results are sums modulo 256. -/
theorem add8AndSub8 : Obligations.Add8AndSub8 := by
  unfold Obligations.Add8AndSub8
  intro x y
  exact ⟨rfl, add8_flags x y, sub8_result x y, sub8_flags x y⟩

/-! ## The logical operations and Swap8 -/

/-- A low bit comes from the high nibble shifted down, a high bit from the low nibble shifted up. -/
theorem swap8_result_getLsbD (x : Byte) (k : Fin 8) :
    (swap8 x).result.getLsbD k = x.getLsbD ((k.val + 4) % 8) := by
  have hk := k.isLt
  rw [swap8, BitVec.getLsbD_or, BitVec.getLsbD_shiftLeft, BitVec.getLsbD_ushiftRight]
  by_cases h : k.val < 4
  · have hmod : (k.val + 4) % 8 = 4 + k.val := by omega
    simp [h, hmod]
  · have hmod : (k.val + 4) % 8 = k.val - 4 := by omega
    have hout : x.getLsbD (4 + k.val) = false := BitVec.getLsbD_of_ge x _ (by omega)
    simp [h, hmod, hout, hk]

/-- Settles O14: the bits by the rules of the word operations, the flags by definition. -/
theorem logicAndSwapOperations : Obligations.LogicAndSwapOperations := by
  unfold Obligations.LogicAndSwapOperations
  intro x y k
  exact ⟨BitVec.getLsbD_and, BitVec.getLsbD_or, BitVec.getLsbD_xor, swap8_result_getLsbD x k,
    rfl, rfl, rfl, rfl⟩

/-! ## The laws of R152 -/

theorem halfCarryAdd8_comm (a b : Byte) : halfCarryAdd8 a b = halfCarryAdd8 b a := by
  rw [halfCarryAdd8, Nat.add_comm, ← halfCarryAdd8]

theorem add8_comm (x y : Byte) : add8 x y = add8 y x := by
  rw [add8, add8, halfCarryAdd8_comm, Nat.add_comm]

theorem inc8_dec8_result (f g x : Byte) : (inc8 f (dec8 g x).result).result = x :=
  sub_add_cancel x 1

theorem dec8_inc8_result (f g x : Byte) : (dec8 f (inc8 g x).result).result = x :=
  add_sub_cancel_right x 1

/-- Settles O15: the built F values read back flag by flag; the other laws are lemmas above. -/
theorem documentLaws : Obligations.DocumentLaws := by
  unfold Obligations.DocumentLaws
  exact ⟨add8_comm, fun _ _ => flagN_flagByte ..,
    fun f g x => ⟨inc8_dec8_result f g x, dec8_inc8_result f g x⟩, fun _ _ _ => flagZ_flagByte ..,
    fun _ _ => ⟨flagH_flagByte .., flagH_flagByte .., flagH_flagByte ..⟩⟩

/-! ## Adc16 and Sbc16 -/

/-- Settles O16: both operations raise, for every operand. -/
theorem sixteenBitCarryOperationsRaise : Obligations.SixteenBitCarryOperationsRaise := by
  unfold Obligations.SixteenBitCarryOperationsRaise
  intro _ _ s
  exact ⟨raiseUnimplemented_next s, raiseUnimplemented_next s⟩

end Sys2Proof.Machine
end

section
/-!
PROOFS. Step and dispatch (spec/41_step_and_dispatch.md): the two outcomes of a handler, and from them what
the guard, the fetch and the handler do to the fault kind and to CurrentOpcode.
-/

namespace Sys2Proof.Machine

/-! ## Every instruction's handler -/

/-- The handler contract over DT_REF (R175, R179): each arm of exec is one of the shared operations, and
each of these keeps the contract. -/
theorem exec_handles (i : Instr) (s : State) : Handles s (exec i s) := by
  unfold exec
  cases i <;>
    simp only [done_handles, loadReg8_handles, loadMem8_handles, storeMem8_handles,
      loadAStepHL_handles, storeAStepHL_handles, loadReg16_handles, writeU16_handles,
      pushPair_handles, popPair_handles, aluA_handles, aluReg_handles, aluMem_handles,
      incReg8_handles, decReg8_handles, incMem_handles, decMem_handles, addHL_handles,
      stepPair_handles, jumpTo_handles, jumpIf_handles, callTo_handles, callIf_handles,
      returnTo_handles, returnIf_handles, cbHandler_handles, shiftTarget_handles,
      testBit_handles, resetBit_handles, setBit_handles, rotateA_handles, decimalAdjust_handles,
      complementA_handles, setCarry_handles, complementCarry_handles, addSPTo_handles,
      withExt_handles, raiseUnimplemented_handles]

/-- Settles O50: writes through the accessors reach no special register, and the other outcome is the
fault. -/
theorem handlersHaveTwoOutcomes : Obligations.HandlersHaveTwoOutcomes := by
  unfold Obligations.HandlersHaveTwoOutcomes
  intro i s
  obtain ⟨t, hexec, hwrites | hraise⟩ := exec_handles i s
  · exact ⟨t, hexec, .inl hwrites.keeps.control⟩
  · exact ⟨t, hexec, .inr hraise⟩

/-! ## A step that fetches -/

/-- A step past the guard ends in what the handler wrote on the state it was entered in, or in the fault on
that state (R172, R174, R179). -/
theorem step_cases_of_fetchable {s t : State} (hpc : s.pc.toNat < 0x8000) (h : step s = .next t) :
    (∃ u, Writes s.beginStep u ∧ t = u.endStep) ∨
      t = s.beginStep.endStep.takeFault .unimplementedOperation := by
  obtain ⟨-, -, ⟨-, u, hexec, rfl⟩ | ⟨hguard, -⟩⟩ := step_cases h
  · obtain ⟨v, hv, hend⟩ := exec_handles s.fetchInstr s.beginStep
    obtain rfl : u = v := Host.Outcome.next.inj (hexec.symm.trans hv)
    obtain hwrites | rfl := hend
    · exact .inl ⟨u, hwrites, rfl⟩
    · exact .inr (endStep_takeFault ..)
  · rw [(fetchable_iff s.pc).mpr hpc] at hguard
    cases hguard

/-- No handler writes CurrentOpcode, and a fault keeps it. -/
theorem currentOpcode_of_step {s t : State} (hpc : s.pc.toNat < 0x8000) (h : step s = .next t) :
    t.currentOpcode = s.opcodeByte := by
  obtain ⟨u, hwrites, rfl⟩ | rfl := step_cases_of_fetchable hpc h
  · rw [endStep_currentOpcode, hwrites.keeps.control.currentOpcode, beginStep_currentOpcode]
  · simp

/-- A step past the guard leaves the fault kind alone or sets it to UnimplementedOperation. -/
theorem fault_of_step {s t : State} (hpc : s.pc.toNat < 0x8000) (h : step s = .next t) :
    t.fault = s.fault ∨ t.fault = some .unimplementedOperation := by
  obtain ⟨u, hwrites, rfl⟩ | rfl := step_cases_of_fetchable hpc h
  · left
    rw [endStep_fault, hwrites.keeps.control.fault, beginStep_fault]
  · exact .inr (takeFault_fault ..)

/-- Settles O48: past the program region the guard answers, and below it the handler's two outcomes leave
another fault kind or none. -/
theorem guardRaisesOutOfRangePC : Obligations.GuardRaisesOutOfRangePC := by
  unfold Obligations.GuardRaisesOutOfRangePC
  intro s hrun hidle
  constructor
  · intro hpc
    have hguard : fetchable s.pc = false := by
      rw [← Bool.not_eq_true, fetchable_iff]
      omega
    exact step_of_unfetchable hrun hidle hguard
  · intro hpc hnone t hstep
    obtain hkept | hraised := fault_of_step hpc hstep
    · simp [hkept, hnone]
    · simp [hraised]

/-- Settles O49: the latch is set on entry to the handler, before which pc has not moved. -/
theorem fetchSetsCurrentOpcode : Obligations.FetchSetsCurrentOpcode := by
  unfold Obligations.FetchSetsCurrentOpcode
  intro s t hpc hstep
  exact ⟨currentOpcode_of_step hpc hstep, beginStep_currentOpcode s, beginStep_pc s⟩

end Sys2Proof.Machine
end

section
/-!
PROOFS. Decoding and encoding (spec/30_encoding.md). The two are inverse because the maps of R113 and R114
and the bytes column name the same opcode byte in every cell, and because a format reads exactly the
operand bytes it has.
-/

namespace Sys2Proof

open Sys2Proof.Machine

/-! ## The operand bytes a format reads -/

/-- A cell reads no byte past its own length, so what follows the operand bytes does not matter (R102). -/
theorem Slot.instr_append (sl : Slot) (tail rest : List Byte) (h : tail.length + 1 = sl.length) :
    sl.instr ((tail ++ rest).getD 0 0) ((tail ++ rest).getD 1 0) =
      sl.instr (tail.getD 0 0) (tail.getD 1 0) := by
  cases sl with
  | op i => rfl
  | n8 f | e8 f | cb =>
    obtain ⟨b1, rfl⟩ := List.length_eq_one_iff.mp (Nat.succ.inj h)
    rfl
  | n16 f =>
    obtain ⟨b1, b2, rfl⟩ := List.length_eq_two.mp (Nat.succ.inj h)
    rfl

/-- Decoding bytes that begin with as many operand bytes as the opcode byte asks for. -/
theorem decode_append {op : Byte} {tail : List Byte} (h : tail.length + 1 = lengthOf op)
    (rest : List Byte) :
    decode (op :: tail ++ rest) = .ok (decodeAt op (tail.getD 0 0) (tail.getD 1 0), rest) := by
  have henough : ¬ (tail ++ rest).length + 1 < lengthOf op := by
    rw [List.length_append]
    omega
  have hrest : (tail ++ rest).drop (lengthOf op - 1) = rest := by
    rw [← h, Nat.add_sub_cancel, List.drop_left]
  rw [List.cons_append, decode, if_neg henough, hrest, decodeAt, Slot.instr_append _ _ _ h, decodeAt]

/-! ## From an instruction to its bytes and back -/

/-- The first byte and the operand bytes of an instruction's encoding are those that the maps read it
from. -/
def Instr.ReadsBack (i : Instr) : Prop :=
  ∃ op tail, encode i = op :: tail ∧ tail.length + 1 = lengthOf op ∧
    decodeAt op (tail.getD 0 0) (tail.getD 1 0) = i

/-- Every row by its own bytes; a word operand is joined from its two bytes again (R109). -/
theorem readsBack_of_wellFormed {i : Instr} (h : i.WellFormed = true) : i.ReadsBack := by
  cases i
  case prefixCb => cases h
  case ld_BC_nn nn | ld_mnn_SP nn | ld_DE_nn nn | ld_HL_nn nn | ld_SP_nn nn | jp_NZ_nn nn | jp_nn nn
      | call_NZ_nn nn | jp_Z_nn nn | call_Z_nn nn | call_nn nn | jp_NC_nn nn | call_NC_nn nn | jp_C_nn nn
      | call_C_nn nn | ld_mnn_A nn | ld_A_mnn nn =>
    exact ⟨_, _, rfl, rfl, congrArg _ (joinBytes_hiByte_loByte nn)⟩
  all_goals exact ⟨_, _, rfl, rfl, rfl⟩

/-- Settles O1: the bytes of an instruction are as long as the format of their first byte, and the maps
read the instruction from them. -/
theorem decodeOfEncode : Obligations.DecodeOfEncode := by
  unfold Obligations.DecodeOfEncode
  intro i rest hwf
  obtain ⟨op, tail, hbytes, hlength, hreads⟩ := readsBack_of_wellFormed hwf
  rw [hbytes, decode_append hlength, hreads]

/-! ## The bytes and the fields -/

/-- Settles O4: at each value of the operand fields the bytes column has the base and the weights. -/
theorem opcodeFields : Obligations.OpcodeFields := by
  unfold Obligations.OpcodeFields
  refine ⟨fun dst r => ?_, fun dst n => ?_, fun dst => ?_, fun r => ?_, fun op r => ?_, fun op => ?_,
    fun op n => ?_, fun r => ?_, fun p => ?_, fun p nn => ?_, fun q => ?_, fun cc nn e => ?_,
    fun y => ?_, fun op x => ?_, fun b x => ?_⟩
  · cases dst <;> cases r <;> rfl
  · cases dst <;> rfl
  · cases dst <;> rfl
  · cases r <;> rfl
  · cases op <;> cases r <;> rfl
  · cases op <;> rfl
  · cases op <;> rfl
  · cases r <;> exact ⟨rfl, rfl⟩
  · cases p <;> exact ⟨rfl, rfl, rfl⟩
  · cases p <;> rfl
  · cases q <;> exact ⟨rfl, rfl⟩
  · cases cc <;> exact ⟨rfl, rfl, rfl, rfl⟩
  · fin_cases y <;> rfl
  · obtain r | _ := x
    · cases op <;> cases r <;> rfl
    · cases op <;> rfl
  · obtain r | _ := x
    · fin_cases b <;> cases r <;> exact ⟨rfl, rfl, rfl⟩
    · fin_cases b <;> exact ⟨rfl, rfl, rfl⟩

/-- Settles O5: the maps give each of the words its instruction. -/
theorem wordsDecodeToTheirInstructions : Obligations.WordsDecodeToTheirInstructions :=
  ⟨rfl, rfl, rfl, rfl, rfl, rfl, rfl, rfl, rfl, rfl, rfl, rfl⟩

/-! ## From bytes to the instruction and back -/

theorem forall_byte {P : Byte → Prop} (h : ∀ n < 256, P (BitVec.ofNat 8 n)) (b : Byte) : P b := by
  simpa using h b.toNat b.isLt

/-- What the cell of an opcode byte says of the bytes column: its instructions are well-formed, and their
bytes are the opcode byte and the operand bytes of the cell's format, low byte first (R102, R109). -/
inductive Slot.Encodes : Slot → Byte → Prop where
  | op {op : Byte} {i : Instr} (h : i.WellFormed = true ∧ encode i = [op]) : Encodes (.op i) op
  | n8 {op : Byte} {f : Byte → Instr} (h : ∀ n, (f n).WellFormed = true ∧ encode (f n) = [op, n]) :
    Encodes (.n8 f) op
  | e8 {op : Byte} {f : Byte → Instr} (h : ∀ e, (f e).WellFormed = true ∧ encode (f e) = [op, e]) :
    Encodes (.e8 f) op
  | n16 {op : Byte} {f : Word → Instr}
      (h : ∀ nn, (f nn).WellFormed = true ∧ encode (f nn) = [op, loByte nn, hiByte nn]) :
    Encodes (.n16 f) op
  | cb : Encodes .cb 0xCB

/-- Cell by cell, the first-byte map and the bytes column agree. -/
theorem slotOf_encodes (op : Byte) : (slotOf op).Encodes op := by
  revert op
  refine forall_byte fun n hn => ?_
  interval_cases n <;> constructor <;> intros <;> exact ⟨rfl, rfl⟩

/-- Sub-opcode by sub-opcode, the second-byte map and the bytes column agree. -/
theorem cbInstr_encodes (sub : Byte) :
    (cbInstr sub).WellFormed = true ∧ encode (cbInstr sub) = [0xCB, sub] := by
  revert sub
  refine forall_byte fun n hn => ?_
  interval_cases n <;> exact ⟨rfl, rfl⟩

/-- The instruction a cell gives, and its bytes: as many of the bytes read as the format has. -/
theorem Slot.Encodes.instr {op : Byte} {sl : Slot} (h : sl.Encodes op) (b1 b2 : Byte) :
    (sl.instr b1 b2).WellFormed = true ∧ encode (sl.instr b1 b2) = [op, b1, b2].take sl.length := by
  cases h with
  | op h => exact h
  | n8 h | e8 h => exact h b1
  | n16 h => simpa [Slot.instr, Slot.length] using h (joinBytes b2 b1)
  | cb => exact cbInstr_encodes b1

/-- The bytes the decoder reads, an absent one as 0, are the list's own as far as the list goes. -/
theorem take_operandBytes (op : Byte) {bs : List Byte} {n : Nat} (hn : n ≤ bs.length + 1) (h3 : n ≤ 3) :
    [op, bs.getD 0 0, bs.getD 1 0].take n = (op :: bs).take n := by
  obtain _ | ⟨b1, _ | ⟨b2, bs⟩⟩ := bs
  · replace hn : n ≤ 1 := hn
    interval_cases n <;> rfl
  · replace hn : n ≤ 2 := hn
    interval_cases n <;> rfl
  · interval_cases n <;> rfl

/-- When decoding answers and what: by the length of the opcode byte alone. -/
theorem decode_cons_eq_ok_iff {op : Byte} {bs rest : List Byte} {i : Instr} :
    decode (op :: bs) = .ok (i, rest) ↔ lengthOf op ≤ bs.length + 1 ∧
      decodeAt op (bs.getD 0 0) (bs.getD 1 0) = i ∧ bs.drop (lengthOf op - 1) = rest := by
  rw [decode]
  split
  · next hshort => simp [Nat.not_le.mpr hshort]
  · next henough => simp [Nat.not_lt.mp henough]

/-- Settles O2: the cell of the opcode byte names the instruction, whose bytes are the first ones. -/
theorem encodeOfDecode : Obligations.EncodeOfDecode := by
  unfold Obligations.EncodeOfDecode
  intro bs i rest h
  cases bs with
  | nil => cases h
  | cons op bs =>
    obtain ⟨henough, rfl, rfl⟩ := decode_cons_eq_ok_iff.mp h
    obtain ⟨hwf, hbytes⟩ := (slotOf_encodes op).instr (bs.getD 0 0) (bs.getD 1 0)
    have hdrop : bs.drop (lengthOf op - 1) = (op :: bs).drop (lengthOf op) := by
      obtain ⟨k, hk⟩ := Nat.exists_eq_add_of_le' (lengthOf_pos op)
      simp [hk]
    refine ⟨hwf, ?_⟩
    rw [decodeAt, hbytes, ← lengthOf, take_operandBytes op henough (lengthOf_le_three op), hdrop,
      List.take_append_drop]

/-! ## The lengths -/

/-- Settles O3: the lengths cell by cell; the decoder asks for that many bytes and drops that many. -/
theorem decodeTotalByLength : Obligations.DecodeTotalByLength := by
  unfold Obligations.DecodeTotalByLength
  refine ⟨forall_byte fun n hn => ?_, fun op rest => ⟨?_, fun i tail h => ?_⟩⟩
  · interval_cases n <;> rfl
  · simp only [decode_cons_eq_ok_iff]
    exact ⟨fun h => ⟨_, _, h, rfl, rfl⟩, fun ⟨_, _, h, _⟩ => h⟩
  · obtain ⟨henough, -, rfl⟩ := decode_cons_eq_ok_iff.mp h
    have hpos := lengthOf_pos op
    rw [List.length_drop]
    omega

end Sys2Proof
end

section
/-!
PROOFS. Loads, stores and the stack (spec/42_loads_stores_stack.md): each form is one of the shared
operations at the form's registers and address.
-/

namespace Sys2Proof.Machine

/-! ## The forms -/

theorem exec_ldRR (dst r : RField) (s : State) :
    exec (.ldRR dst r) s = loadReg8 dst.reg (s.reg8 r.reg) 1 s := by
  cases dst <;> cases r <;> rfl

theorem exec_ldRN (dst : RField) (n : Byte) (s : State) :
    exec (.ldRN dst n) s = loadReg8 dst.reg n 2 s := by
  cases dst <;> rfl

theorem exec_ldRMem (dst : RField) (s : State) :
    exec (.ldRMem dst) s = loadMem8 dst.reg s.hl 1 s := by
  cases dst <;> rfl

theorem exec_ldMemR (r : RField) (s : State) :
    exec (.ldMemR r) s = storeMem8 s.hl (s.reg8 r.reg) 1 s := by
  cases r <;> rfl

theorem exec_ldPairNN (p : RRField) (nn : Word) (s : State) :
    exec (.ldPairNN p nn) s = loadReg16 p.reg nn 3 s := by
  cases p <;> rfl

theorem exec_push (q : QQField) (s : State) : exec (.push q) s = pushPair q.reg s := by
  cases q <;> rfl

theorem exec_pop (q : QQField) (s : State) : exec (.pop q) s = popPair q.reg s := by
  cases q <;> rfl

/-! ## Loads of a byte -/

/-- Settles O18: each form writes its destination once. -/
theorem registerLoads : Obligations.RegisterLoads := by
  unfold Obligations.RegisterLoads
  constructor
  · intro dst r s
    rw [exec_ldRR]
    exact loadReg8_next (rField_reg_ne_f dst) _ 1 s
  · intro dst n s
    rw [exec_ldRN]
    exact loadReg8_next (rField_reg_ne_f dst) n 2 s

/-- The high page begins at `0xFF00` (R212 to R215). -/
theorem highPage_eq_ofNat (n : Byte) : highPage n = BitVec.ofNat 16 (0xFF00 + n.toNat) := by
  rw [highPage, BitVec.ofNat_add, BitVec.ofNat_toNat]
  rfl

theorem loadMem8_next {dst : Reg8} (h : dst ≠ .f) (a len : Word) (s : State) :
    ∃ t, loadMem8 dst a len s = .next t ∧ t.reg8 dst = s.readU8 a ∧ s.KeepsRegsBut t [dst] ∧
      t.sp = s.sp ∧ t.pc = s.pc + len ∧ s.KeepsMemory t ∧ s.KeepsControl t :=
  loadReg8_next h _ len s

/-- Settles O19: a load of the byte at the form's address. -/
theorem loadsFromMemory : Obligations.LoadsFromMemory := by
  unfold Obligations.LoadsFromMemory
  constructor
  · intro dst s
    rw [exec_ldRMem]
    exact loadMem8_next (rField_reg_ne_f dst) s.hl 1 s
  · intro n nn s p hp
    rw [← highPage_eq_ofNat, ← highPage_eq_ofNat] at hp
    fin_cases hp <;> exact loadMem8_next (dst := .a) (by decide) _ _ s

/-! ## Stores of a byte -/

/-- Settles O20: a store of the source at the form's address. -/
theorem storesToMemory : Obligations.StoresToMemory := by
  unfold Obligations.StoresToMemory
  refine ⟨fun r s => ?_, fun n s => storeMem8_next s.hl n 2 s, fun n nn s p hp => ?_⟩
  · rw [exec_ldMemR]
    exact storeMem8_next s.hl _ 1 s
  · rw [← highPage_eq_ofNat, ← highPage_eq_ofNat] at hp
    fin_cases hp <;> exact storeMem8_next _ (s.reg8 .a) _ s

/-- Settles O21: the access is at the old HL, and HL changes by 1 or -1. -/
theorem loadsAndStoresThatStepHL : Obligations.LoadsAndStoresThatStepHL := by
  unfold Obligations.LoadsAndStoresThatStepHL
  intro s
  have hdown : s.hl - 1 = s.hl + (-1) := sub_eq_add_neg s.hl 1
  rw [hdown]
  constructor
  · intro p hp
    fin_cases hp <;> exact loadAStepHL_next _ s
  · intro p hp
    fin_cases hp <;> exact storeAStepHL_next _ s

/-! ## Words -/

/-- Settles O22: two loads of a 16-bit register and one 16-bit store. -/
theorem sixteenBitLoadsAndStore : Obligations.SixteenBitLoadsAndStore := by
  unfold Obligations.SixteenBitLoadsAndStore
  refine ⟨fun p nn s => ?_, fun s => ?_, fun nn s => writeU16_next nn s.sp 3 s⟩
  · rw [exec_ldPairNN]
    exact loadReg16_next p nn 3 s
  · obtain ⟨t, hnext, hsp, hregs, -, hrest⟩ := loadReg16_next .sp s.hl 1 s
    exact ⟨t, hnext, hsp, hregs, hrest⟩

/-! ## The stack -/

/-- Settles O23: a push of the pair. -/
theorem pushStoresThePair : Obligations.PushStoresThePair := by
  unfold Obligations.PushStoresThePair
  intro q s
  rw [exec_push]
  exact pushPair_next q.reg s

/-- The mask of AF reaches the low byte only (spec/10_state.md R26). -/
theorem maskAF_joinBytes (hi lo : Byte) : maskAF (joinBytes hi lo) = joinBytes hi (lo &&& 0xF0) := by
  rw [← joinBytes_hiByte_loByte (maskAF _), hiByte_maskAF, loByte_maskAF, hiByte_joinBytes,
    loByte_joinBytes]

/-- Settles O24: a pop into the pair, through the write port of AF. -/
theorem popLoadsThePair : Obligations.PopLoadsThePair := by
  unfold Obligations.PopLoadsThePair
  intro q s
  obtain ⟨t, hnext, hpair, hrest⟩ := popPair_next q s
  refine ⟨t, (exec_pop q s).trans hnext, hpair.trans ?_, hrest⟩
  split
  · exact maskAF_joinBytes ..
  · rfl

end Sys2Proof.Machine
end

section
/-!
PROOFS. Arithmetic and logic (spec/43_arith8.md, spec/44_arith16.md): the shared operation of each form, and
what its Flag Engine operation is as arithmetic.
-/

namespace Sys2Proof.Machine

/-! ## `ALU A,y` -/

theorem exec_aluInstr (op : AluOp) (y : AluOperand) (s : State) :
    exec (y.instr op) s = aluA op (y.value s) y.length s := by
  cases y with
  | reg r => cases op <;> cases r <;> rfl
  | mHL => cases op <;> rfl
  | imm n => cases op <;> rfl

/-- The effect of an ALU form whose operation gives the result `a` and the flags `f`; `CP` keeps A. -/
theorem exec_aluInstr_next {op : AluOp} {y : AluOperand} {s : State} {a f : Byte}
    (ha : (if op = .cp then s.reg8 .a
      else (aluResult op s.params.sbcAdjust (s.reg8 .f) (s.reg8 .a) (y.value s)).result) = a)
    (hf : (aluResult op s.params.sbcAdjust (s.reg8 .f) (s.reg8 .a) (y.value s)).flags = f) :
    ∃ t, exec (y.instr op) s = .next t ∧ t.reg8 .a = a ∧ t.reg8 .f = f ∧
      s.KeepsRegsBut t [.a, .f] ∧ t.sp = s.sp ∧ t.pc = s.pc + y.length ∧ s.KeepsMemory t ∧
      s.KeepsControl t := by
  subst ha hf
  rw [exec_aluInstr]
  exact aluA_next op (y.value s) y.length s

/-- The carry that is added is Carry as a number (R141). -/
theorem carryIn_eq_ofNat (f : Byte) : carryIn f = BitVec.ofNat 8 (flagC f).toNat := by
  unfold carryIn
  cases flagC f <;> rfl

theorem toNat_add_carryIn (f y : Byte) :
    (y + carryIn f).toNat = (y.toNat + (flagC f).toNat) % 256 := by
  rw [carryIn_eq_ofNat, BitVec.toNat_add, BitVec.toNat_ofNat, Nat.add_mod_mod]

/-- Settles O25: `ADC` is Add8 of the operand with Carry added to it. -/
theorem addAndAddWithCarry : Obligations.AddAndAddWithCarry := by
  unfold Obligations.AddAndAddWithCarry
  intro y s p hp
  rw [← toNat_add_carryIn] at hp
  fin_cases hp
  · exact exec_aluInstr_next (op := .add) rfl (add8_flags ..)
  · exact exec_aluInstr_next (op := .adc) rfl (add8_flags ..)

/-- Settles O26: both operations are Sub8, of which `CP` keeps the flags alone. -/
theorem subtractAndCompare : Obligations.SubtractAndCompare := by
  unfold Obligations.SubtractAndCompare
  intro y s p hp
  fin_cases hp
  · exact exec_aluInstr_next (op := .sub) rfl (sub8_flags ..)
  · exact exec_aluInstr_next (op := .cp) rfl (sub8_flags ..)

/-- Settles O27: Sub8 of the operand that the parameter adjusts. -/
theorem subtractWithCarryByParameter : Obligations.SubtractWithCarryByParameter := by
  unfold Obligations.SubtractWithCarryByParameter
  intro y s y' hdec hinc
  obtain rfl : sbcOperand s.params.sbcAdjust (s.reg8 .f) (y.value s) = y' := by
    rw [← carryIn_eq_ofNat] at hdec hinc
    cases hadjust : s.params.sbcAdjust with
    | dec => exact (hdec hadjust).symm
    | inc => exact (hinc hadjust).symm
  exact exec_aluInstr_next (op := .sbc) rfl (sub8_flags ..)

/-- Settles O28: the flags are And8's, Xor8's and Or8's own. -/
theorem logicalOperations : Obligations.LogicalOperations := by
  unfold Obligations.LogicalOperations
  intro y s p hp
  fin_cases hp
  · exact exec_aluInstr_next (op := .and) rfl rfl
  · exact exec_aluInstr_next (op := .xor) rfl rfl
  · exact exec_aluInstr_next (op := .or) rfl rfl

/-! ## `INC` and `DEC` -/

theorem exec_incR (r : RField) (s : State) : exec (.incR r) s = incReg8 r.reg s := by
  cases r <;> rfl

theorem exec_decR (r : RField) (s : State) : exec (.decR r) s = decReg8 r.reg s := by
  cases r <;> rfl

theorem inc8_flags (f x : Byte) :
    (inc8 f x).flags = flagByte (decide (x = 0xFF)) false (decide (x.toNat % 16 = 15)) (flagC f) := by
  have hzero : x + 1 = 0 ↔ x = 0xFF := by bv_omega
  have hhalf : 15 < x.toNat % 16 + (1 : Byte).toNat % 16 ↔ x.toNat % 16 = 15 := by
    change 15 < x.toNat % 16 + 1 ↔ _
    omega
  simp only [inc8, zeroFlag_eq_decide, halfCarryAdd8_eq_decide, hzero, hhalf]

theorem dec8_flags (f x : Byte) :
    (dec8 f x).flags = flagByte (decide (x = 1)) true (decide (x.toNat % 16 = 0)) (flagC f) := by
  have hhalf : x.toNat % 16 < (1 : Byte).toNat % 16 ↔ x.toNat % 16 = 0 := Nat.lt_one_iff
  simp only [dec8, zeroFlag_sub, borrowHalfCarry_eq_decide, hhalf]

/-- Settles O29: Inc8 and Dec8 of the register. -/
theorem incrementAndDecrementRegister : Obligations.IncrementAndDecrementRegister := by
  unfold Obligations.IncrementAndDecrementRegister
  intro r s
  rw [exec_incR, exec_decR, ← inc8_flags, ← dec8_flags]
  exact ⟨incReg8_next (rField_reg_ne_f r) s, decReg8_next (rField_reg_ne_f r) s⟩

/-- Settles O30: AddU8 and SubU8 are a store of the new byte. -/
theorem incrementAndDecrementMemory : Obligations.IncrementAndDecrementMemory := by
  unfold Obligations.IncrementAndDecrementMemory
  intro s p hp
  fin_cases hp <;> exact storeMem8_next s.hl _ 1 s

/-! ## Pairs -/

theorem exec_addHL (p : RRField) (s : State) : exec (.addHL p) s = addHL (s.reg16 p.reg) s := by
  cases p <;> rfl

theorem exec_incPair (p : RRField) (s : State) : exec (.incPair p) s = stepPair p.reg 1 s := by
  cases p <;> rfl

theorem exec_decPair (p : RRField) (s : State) : exec (.decPair p) s = stepPair p.reg (-1) s := by
  cases p <;> rfl

theorem nat_and_0xFFFF0000 (n : Nat) : n &&& 0xFFFF0000 = n / 65536 % 65536 * 65536 :=
  nat_and_mask_shiftLeft n 16 16

/-- The sum of two words is below 2^32, so the mask misses no carry (R135). -/
theorem carryAdd16_eq_decide (a b : Word) :
    carryAdd16 (a.toNat + b.toNat) = decide (65535 < a.toNat + b.toNat) := by
  have ha := a.isLt
  have hb := b.isLt
  rw [carryAdd16, nat_and_0xFFFF0000, Bool.eq_iff_iff, bne_iff_ne, decide_eq_true_iff]
  omega

theorem addHL16Flags_eq (f : Byte) (hl v : Word) :
    addHL16Flags f hl v = flagByte (flagZ f) false
      (decide (15 < hl.toNat / 256 % 16 + v.toNat / 256 % 16)) (decide (65535 < hl.toNat + v.toNat)) := by
  rw [addHL16Flags, halfCarryAdd16_eq_decide, carryAdd16_eq_decide]

/-- Settles O31: AddHL16 of the pair. -/
theorem addPairToHL : Obligations.AddPairToHL := by
  unfold Obligations.AddPairToHL
  intro p s
  rw [exec_addHL, ← addHL16Flags_eq]
  exact addHL_next (s.reg16 p.reg) s

end Sys2Proof.Machine

namespace Sys2Proof

open Sys2Proof.Machine

/-- Settles O32: a step of 1 or of -1. -/
theorem stepPair : Obligations.StepPair := by
  unfold Obligations.StepPair
  intro p s q hq
  rw [sub_eq_add_neg] at hq
  fin_cases hq
  · exact exec_incPair p s ▸ stepPair_next p 1 s
  · exact exec_decPair p s ▸ stepPair_next p (-1) s

end Sys2Proof
end

section
/-!
PROOFS. Control transfer (spec/45_control.md): the shared operation of each form, and the signed
displacement as a sum of integers.
-/

namespace Sys2Proof.Machine

/-! ## The forms -/

theorem exec_jpCC (cc : Cond) (nn : Word) (s : State) : exec (.jpCC cc nn) s = jumpIf cc nn 3 s := by
  cases cc <;> rfl

theorem exec_jrCC (cc : Cond) (e : Byte) (s : State) :
    exec (.jrCC cc e) s = jumpIf cc (relativeTarget s.pc e) 2 s := by
  cases cc <;> rfl

theorem exec_callCC (cc : Cond) (nn : Word) (s : State) : exec (.callCC cc nn) s = callIf cc nn s := by
  cases cc <;> rfl

theorem exec_retCC (cc : Cond) (s : State) : exec (.retCC cc) s = returnIf cc s := by
  cases cc <;> rfl

theorem exec_rst (y : Fin 8) (s : State) : exec (.rst y) s = callTo (restartAddress y) 1 s := by
  fin_cases y <;> rfl

/-! ## Jumps -/

/-- A word and a displacement add up as integers, modulo 65536. -/
theorem add_sext16_eq_ofInt (w : Word) (e : Byte) :
    w + sext16 e = BitVec.ofInt 16 ((w.toNat : Int) + e.toInt) := by
  rw [BitVec.ofInt_add, BitVec.ofInt_natCast, BitVec.ofNat_toNat, BitVec.setWidth_eq]
  rfl

/-- The displacement counts from the next instruction (R316). -/
theorem relativeTarget_eq_ofInt (pc : Word) (e : Byte) :
    relativeTarget pc e = BitVec.ofInt 16 ((pc.toNat : Int) + 2 + e.toInt) := by
  rw [BitVec.ofInt_add, BitVec.ofInt_add, BitVec.ofInt_natCast, BitVec.ofNat_toNat, BitVec.setWidth_eq]
  rfl

/-- Settles O33: `NOP` goes past itself, the others jump. -/
theorem unconditionalTransfers : Obligations.UnconditionalTransfers := by
  unfold Obligations.UnconditionalTransfers
  intro nn e s p hp
  rw [← relativeTarget_eq_ofInt] at hp
  fin_cases hp
  · exact done_next 1 s
  · exact jumpTo_next nn s
  · exact jumpTo_next s.hl s
  · exact jumpTo_next (relativeTarget s.pc e) s

/-- Settles O34: the conditions are the flag bits, and both forms are one conditional jump. -/
theorem conditionalTransfers : Obligations.ConditionalTransfers := by
  unfold Obligations.ConditionalTransfers
  intro nn e s c hc p hp
  have hcond : s.cond c.1 = c.2 := by fin_cases hc <;> rfl
  rw [← relativeTarget_eq_ofInt] at hp
  rw [← hcond]
  fin_cases hp
  · exact exec_jpCC c.1 nn s ▸ jumpIf_next c.1 nn 3 s
  · exact exec_jrCC c.1 e s ▸ jumpIf_next c.1 (relativeTarget s.pc e) 2 s

/-! ## Calls and returns -/

/-- Settles O35: each of them is a call, the conditional one where its condition holds. -/
theorem callsPushTheReturnAddress : Obligations.CallsPushTheReturnAddress := by
  unfold Obligations.CallsPushTheReturnAddress
  intro nn y cc s
  refine List.forall_mem_cons.mpr ⟨callTo_next nn 3 s, List.forall_mem_cons.mpr ⟨?_, fun p hp => ?_⟩⟩
  · rw [exec_rst]
    exact callTo_next (restartAddress y) 1 s
  · by_cases hcond : s.cond cc = true
    · rw [if_pos hcond, List.mem_singleton] at hp
      subst hp
      rw [exec_callCC, callIf, if_pos hcond]
      exact callTo_next nn 3 s
    · rw [if_neg hcond] at hp
      cases hp

/-- Settles O36: both of them return, the conditional one where its condition holds. -/
theorem returnsPopTheReturnAddress : Obligations.ReturnsPopTheReturnAddress := by
  unfold Obligations.ReturnsPopTheReturnAddress
  intro cc s
  refine List.forall_mem_cons.mpr ⟨returnTo_next s, fun i hi => ?_⟩
  by_cases hcond : s.cond cc = true
  · rw [if_pos hcond, List.mem_singleton] at hi
    subst hi
    rw [exec_retCC, returnIf, if_pos hcond]
    exact returnTo_next s
  · rw [if_neg hcond] at hi
    cases hi

/-- Settles O37: where the condition does not hold both go past themselves. -/
theorem callsAndReturnsNotTaken : Obligations.CallsAndReturnsNotTaken := by
  unfold Obligations.CallsAndReturnsNotTaken
  intro nn cc s hcond p hp
  have hnot : ¬ s.cond cc = true := Bool.not_eq_true _ ▸ hcond
  have hcall : exec (.callCC cc nn) s = s.done 3 := (exec_callCC cc nn s).trans (if_neg hnot)
  have hret : exec (.retCC cc) s = s.done 1 := (exec_retCC cc s).trans (if_neg hnot)
  fin_cases hp
  · exact hcall ▸ done_next 3 s
  · exact hret ▸ done_next 1 s

end Sys2Proof.Machine
end

section
/-!
PROOFS. The decimal adjustment (spec/47_unimplemented_and_ext.md R356), digit by digit.
-/

namespace Sys2Proof.Machine

/-! ## Packed decimal numbers -/

theorem exists_digits {n : Nat} (h : n < 100) : ∃ hi lo, hi < 10 ∧ lo < 10 ∧ n = 10 * hi + lo :=
  ⟨n / 10, n % 10, by omega, by omega, by omega⟩

theorem toNat_packedDecimal {n hi lo : Nat} (hhi : hi < 10) (hlo : lo < 10) (hn : n = 10 * hi + lo) :
    (packedDecimal n).toNat = 16 * hi + lo := by
  have htens : n / 10 = hi := by omega
  have hones : n % 10 = lo := by omega
  rw [packedDecimal, htens, hones, BitVec.toNat_ofNat, Nat.mod_eq_of_lt (by omega)]

/-! ## The correction of a digit -/

theorem toNat_and_0xF (a : Byte) : (a &&& 0xF).toNat = a.toNat % 16 :=
  (BitVec.toNat_and a 0xF).trans (nat_and_0xF a.toNat)

/-- The adjustment after an addition, by whether each digit is corrected. -/
theorem daa8_of_add {f a : Byte} {high low : Bool} (hN : flagN f = false)
    (hhigh : (flagC f || decide (0x99 < a.toNat)) = high)
    (hlow : (flagH f || decide (9 < (a &&& 0xF).toNat)) = low) :
    (daa8 f a).result = a + (if high then 0x60 else 0) + (if low then 0x06 else 0) ∧
      flagC (daa8 f a).flags = high := by
  subst hhigh hlow
  simp [daa8, hN]

/-- The adjustment after a subtraction, by the borrow out of each digit. -/
theorem daa8_of_sub {f a : Byte} {high low : Bool} (hN : flagN f = true) (hC : flagC f = high)
    (hH : flagH f = low) :
    (daa8 f a).result = a - (if high then 0x60 else 0) - (if low then 0x06 else 0) ∧
      flagC (daa8 f a).flags = high := by
  subst hC hH
  simp [daa8, hN]

/-! ## Addition -/

/-- The tens are corrected where the sum has a third digit: in binary it is past `0x99` then. -/
theorem tens_corrected_iff {a b c d : Nat} (hb : b < 10) (hd : d < 10) :
    255 < 16 * a + b + (16 * c + d) ∨ 0x99 < (16 * a + b + (16 * c + d)) % 256 ↔
      100 ≤ 10 * a + b + (10 * c + d) := by
  by_cases h : 16 * a + b + (16 * c + d) < 256
  · rw [Nat.mod_eq_of_lt h]
    omega
  · omega

/-- The ones are corrected where they add up to a second digit. -/
theorem ones_corrected_iff {a b c d : Nat} (hb : b < 10) (hd : d < 10) :
    15 < (16 * a + b) % 16 + (16 * c + d) % 16 ∨ 9 < (16 * a + b + (16 * c + d)) % 256 % 16 ↔
      10 ≤ b + d := by
  rw [Nat.mod_mod_of_dvd _ (by decide), Nat.add_mod]
  omega

/-- The corrected binary sum is the packed decimal sum, whichever digits carry. -/
theorem toNat_corrected_sum {a b c d : Nat} (ha : a < 10) (hb : b < 10) (hc : c < 10) (hd : d < 10) :
    ((16 * a + b + (16 * c + d)) + (if 100 ≤ 10 * a + b + (10 * c + d) then 0x60 else 0) +
      (if 10 ≤ b + d then 0x06 else 0)) % 256 =
    (packedDecimal ((10 * a + b + (10 * c + d)) % 100)).toNat := by
  by_cases hones : 10 ≤ b + d <;> by_cases htens : 100 ≤ 10 * a + b + (10 * c + d)
  · rw [toNat_packedDecimal (hi := a + c + 1 - 10) (lo := b + d - 10), if_pos htens, if_pos hones] <;> omega
  · rw [toNat_packedDecimal (hi := a + c + 1) (lo := b + d - 10), if_neg htens, if_pos hones] <;> omega
  · rw [toNat_packedDecimal (hi := a + c - 10) (lo := b + d), if_pos htens, if_neg hones] <;> omega
  · rw [toNat_packedDecimal (hi := a + c) (lo := b + d), if_neg htens, if_neg hones] <;> omega

theorem daa8_add8 {x y : Nat} (hx : x < 100) (hy : y < 100) :
    (daa8 (add8 (packedDecimal x) (packedDecimal y)).flags
        (add8 (packedDecimal x) (packedDecimal y)).result).result = packedDecimal ((x + y) % 100) ∧
      flagC (daa8 (add8 (packedDecimal x) (packedDecimal y)).flags
        (add8 (packedDecimal x) (packedDecimal y)).result).flags = decide (100 ≤ x + y) := by
  obtain ⟨a, b, ha, hb, rfl⟩ := exists_digits hx
  obtain ⟨c, d, hc, hd, rfl⟩ := exists_digits hy
  have hsum : (add8 (packedDecimal (10 * a + b)) (packedDecimal (10 * c + d))).result.toNat =
      (16 * a + b + (16 * c + d)) % 256 := by
    rw [← toNat_packedDecimal ha hb rfl, ← toNat_packedDecimal hc hd rfl]
    exact BitVec.toNat_ofNat ..
  have hflags := add8_flags (packedDecimal (10 * a + b)) (packedDecimal (10 * c + d))
  rw [toNat_packedDecimal ha hb rfl, toNat_packedDecimal hc hd rfl] at hflags
  generalize add8 (packedDecimal (10 * a + b)) (packedDecimal (10 * c + d)) = sum at hsum hflags ⊢
  have hhigh : (flagC sum.flags || decide (0x99 < sum.result.toNat)) =
      decide (100 ≤ 10 * a + b + (10 * c + d)) := by
    rw [hflags, flagC_flagByte, hsum, ← Bool.decide_or, decide_eq_decide]
    exact tens_corrected_iff hb hd
  have hlow : (flagH sum.flags || decide (9 < (sum.result &&& 0xF).toNat)) = decide (10 ≤ b + d) := by
    rw [hflags, flagH_flagByte, toNat_and_0xF, hsum, ← Bool.decide_or, decide_eq_decide]
    exact ones_corrected_iff hb hd
  obtain ⟨hresult, hcarry⟩ := daa8_of_add (hflags ▸ flagN_flagByte ..) hhigh hlow
  refine ⟨BitVec.eq_of_toNat_eq ?_, hcarry⟩
  rw [hresult, ← toNat_corrected_sum ha hb hc hd, BitVec.toNat_add, BitVec.toNat_add, hsum]
  simp only [decide_eq_true_eq, apply_ite BitVec.toNat, BitVec.reduceToNat]
  omega

/-! ## Subtraction -/

/-- The corrected binary difference is the packed decimal difference, whichever digits borrow. -/
theorem toNat_corrected_difference {a b c d : Nat} (ha : a < 10) (hb : b < 10) (hc : c < 10)
    (hd : d < 10) :
    (16 * a + b + 512 - (16 * c + d) - (if 10 * a + b < 10 * c + d then 0x60 else 0) -
      (if b < d then 0x06 else 0)) % 256 =
    (packedDecimal ((10 * a + b + 100 - (10 * c + d)) % 100)).toNat := by
  by_cases hones : b < d <;> by_cases htens : 10 * a + b < 10 * c + d
  · rw [toNat_packedDecimal (hi := a + 9 - c) (lo := b + 10 - d), if_pos htens, if_pos hones] <;> omega
  · rw [toNat_packedDecimal (hi := a - c - 1) (lo := b + 10 - d), if_neg htens, if_pos hones] <;> omega
  · rw [toNat_packedDecimal (hi := a + 10 - c) (lo := b - d), if_pos htens, if_neg hones] <;> omega
  · rw [toNat_packedDecimal (hi := a - c) (lo := b - d), if_neg htens, if_neg hones] <;> omega

theorem daa8_sub8 {x y : Nat} (hx : x < 100) (hy : y < 100) :
    (daa8 (sub8 (packedDecimal x) (packedDecimal y)).flags
        (sub8 (packedDecimal x) (packedDecimal y)).result).result =
          packedDecimal ((x + 100 - y) % 100) ∧
      flagC (daa8 (sub8 (packedDecimal x) (packedDecimal y)).flags
        (sub8 (packedDecimal x) (packedDecimal y)).result).flags = decide (x < y) := by
  obtain ⟨a, b, ha, hb, rfl⟩ := exists_digits hx
  obtain ⟨c, d, hc, hd, rfl⟩ := exists_digits hy
  have hdiff : (sub8 (packedDecimal (10 * a + b)) (packedDecimal (10 * c + d))).result.toNat =
      (16 * a + b + 256 - (16 * c + d)) % 256 := by
    rw [← toNat_packedDecimal ha hb rfl, ← toNat_packedDecimal hc hd rfl, sub8_result]
    exact BitVec.toNat_ofNat ..
  have hflags := sub8_flags (packedDecimal (10 * a + b)) (packedDecimal (10 * c + d))
  rw [toNat_packedDecimal ha hb rfl, toNat_packedDecimal hc hd rfl] at hflags
  generalize sub8 (packedDecimal (10 * a + b)) (packedDecimal (10 * c + d)) = diff at hdiff hflags ⊢
  have hhigh : flagC diff.flags = decide (10 * a + b < 10 * c + d) := by
    rw [hflags, flagC_flagByte, decide_eq_decide]
    omega
  have hlow : flagH diff.flags = decide (b < d) := by
    rw [hflags, flagH_flagByte, decide_eq_decide]
    omega
  obtain ⟨hresult, hcarry⟩ := daa8_of_sub (a := diff.result) (hflags ▸ flagN_flagByte ..) hhigh hlow
  refine ⟨BitVec.eq_of_toNat_eq ?_, hcarry⟩
  rw [hresult, ← toNat_corrected_difference ha hb hc hd, BitVec.toNat_sub, BitVec.toNat_sub, hdiff]
  simp only [decide_eq_true_eq, apply_ite BitVec.toNat, BitVec.reduceToNat]
  split_ifs <;> omega

/-- Settles O17: digit by digit. -/
theorem decimalAdjustGivesDecimalArithmetic : Obligations.DecimalAdjustGivesDecimalArithmetic := by
  unfold Obligations.DecimalAdjustGivesDecimalArithmetic
  intro x y hx hy
  obtain ⟨hsum, hcarry⟩ := daa8_add8 hx hy
  obtain ⟨hdifference, hborrow⟩ := daa8_sub8 hx hy
  exact ⟨hsum, hcarry, hdifference, hborrow⟩

end Sys2Proof.Machine
end

section
/-!
PROOFS. The instructions after the byte 0xCB and SWAP (spec/46_cb_prefix_swap.md), the operations that raise
UnimplementedOperation, always or without EXT_LR35902 (spec/47_unimplemented_and_ext.md section 1), and that
no instruction reads CurrentOpcode (spec/41_step_and_dispatch.md section 4).
-/

namespace Sys2Proof.Machine

/-! ## The rows of the second-byte map, by their fields -/

theorem exec_cbShift_swap (x : Target) (s : State) :
    exec (.cbShift .swap x) s = shiftTarget .swap x s := by
  obtain r | _ := x
  · cases r <;> rfl
  · rfl

theorem exec_cbShift {op : ShiftOp} (h : op ≠ .swap) (x : Target) (s : State) :
    exec (.cbShift op x) s = withExt s (shiftTarget op x) := by
  cases op
  case swap => exact absurd rfl h
  all_goals
    obtain r | _ := x
    · cases r <;> rfl
    · rfl

theorem exec_cbBit_cbRes_cbSet (b : Fin 8) (x : Target) (s : State) :
    exec (.cbBit b x) s = withExt s (testBit b x) ∧
      exec (.cbRes b x) s = withExt s (resetBit b x) ∧
      exec (.cbSet b x) s = withExt s (setBit b x) := by
  obtain r | _ := x
  · fin_cases b <;> cases r <;> exact ⟨rfl, rfl, rfl⟩
  · fin_cases b <;> exact ⟨rfl, rfl, rfl⟩

/-! ## SWAP -/

/-- Exchanging the nibbles gives 0 for 0 alone. -/
theorem swap8_flags (v : Byte) : (swap8 v).flags = flagByte (decide (v = 0)) false false false := by
  have hzero : v <<< 4 ||| v >>> 4 = 0 ↔ v = 0 := by
    rw [BitVec.ofNat_eq_ofNat, BitVec.or_eq_zero_iff]
    bv_omega
  simp only [swap8, zeroFlag_eq_decide, hzero]

theorem shiftTarget_swap_next (x : Target) (s : State) :
    ∃ t, shiftTarget .swap x s = .next t ∧ t.target x = (s.target x).rotateLeft 4 ∧
      t.reg8 .f = flagByte (decide (s.target x = 0)) false false false ∧
      s.KeepsRegsBut t (.f :: targetRegs x) ∧ s.KeepsMemoryBut t (s.targetAddrs x) ∧ t.sp = s.sp ∧
      t.pc = s.pc + 2 ∧ s.KeepsControl t := by
  rw [← swap8_flags]
  exact shiftTarget_next .swap x s

/-- Settles O38: a rotation by four exchanges the nibbles. -/
theorem swapExchangesNibbles : Obligations.SwapExchangesNibbles := by
  unfold Obligations.SwapExchangesNibbles
  intro x s
  rw [exec_cbShift_swap]
  exact shiftTarget_swap_next x s

/-! ## The byte 0xCB -/

/-- Sub-opcode by sub-opcode, the handler of the byte 0xCB reads from the fields (R340, R343) what the
second-byte map has in the cell. -/
theorem exec_prefixCb_eq_exec_cbInstr (sub : Byte) (s : State) :
    exec (.prefixCb sub) s = exec (cbInstr sub) s := by
  revert sub
  refine forall_byte fun n hn => ?_
  interval_cases n <;> rfl

theorem exec_prefixCb_swap (x : Target) (s : State) :
    exec (.prefixCb (BitVec.ofNat 8 (0x30 + x.code))) s = shiftTarget .swap x s := by
  obtain r | _ := x
  · cases r <;> rfl
  · rfl

/-- Settles O39: the handler and the map agree, and the handler of `SWAP` completes. -/
theorem prefixRunsTheSubOpcode : Obligations.PrefixRunsTheSubOpcode := by
  unfold Obligations.PrefixRunsTheSubOpcode
  refine ⟨exec_prefixCb_eq_exec_cbInstr, fun x s => ?_⟩
  obtain ⟨t, hnext, htarget, -, -, -, hsp, hpc, hcontrol⟩ := shiftTarget_swap_next x s
  exact ⟨t, (exec_prefixCb_swap x s).trans hnext, htarget, hsp, hpc, hcontrol⟩

/-! ## Raising UnimplementedOperation -/

theorem raised_of_exec_eq {i : Instr} {s : State} (h : exec i s = raiseUnimplemented s) :
    ∃ t, exec i s = .next t ∧ s.Raised t := by
  rw [h]
  exact raiseUnimplemented_next s

/-- Settles O40: the meaning of each of them is the fault. -/
theorem alwaysUnimplemented : Obligations.AlwaysUnimplemented := by
  unfold Obligations.AlwaysUnimplemented
  intro s i hi
  apply raised_of_exec_eq
  fin_cases hi <;> rfl

theorem raised_of_exec_eq_withExt {i : Instr} {s : State} {m : State → Outcome}
    (hext : s.params.ext = false) (h : exec i s = withExt s m) :
    ∃ t, exec i s = .next t ∧ s.Raised t :=
  raised_of_exec_eq (h.trans (withExt_false hext m))

/-- Settles O41: the meaning of each of them asks for the extension. -/
theorem unimplementedWithoutTheExtension : Obligations.UnimplementedWithoutTheExtension := by
  unfold Obligations.UnimplementedWithoutTheExtension
  intro s hext
  refine ⟨fun e i hi => ?_, fun op x hop => ?_, fun b x i hi => ?_⟩
  · fin_cases hi <;> exact raised_of_exec_eq_withExt hext rfl
  · exact raised_of_exec_eq_withExt hext (exec_cbShift hop x s)
  · obtain ⟨hbit, hres, hset⟩ := exec_cbBit_cbRes_cbSet b x s
    fin_cases hi
    · exact raised_of_exec_eq_withExt hext hbit
    · exact raised_of_exec_eq_withExt hext hres
    · exact raised_of_exec_eq_withExt hext hset

/-! ## CurrentOpcode is not read -/

/-- The state with another CurrentOpcode. -/
def State.withOpcode (s : State) (b : Byte) : State := { s with currentOpcode := b }

/-- The outcome with another CurrentOpcode in its next state. -/
def outcomeWithOpcode (b : Byte) : Outcome → Outcome
  | .next t => .next (t.withOpcode b)
  | .fault k => .fault k
  | .refused r => .refused r

/-- Each arm computes with the other fields alone, and so does the condition it may test. -/
theorem exec_withOpcode_of_wellFormed {i : Instr} (h : i.WellFormed = true) (s : State) (b : Byte) :
    exec i (s.withOpcode b) = outcomeWithOpcode b (exec i s) := by
  unfold exec
  cases i
  case prefixCb => cases h
  all_goals
    simp only [withExt, jumpIf, callIf, returnIf, apply_ite (outcomeWithOpcode b)]
    rfl

/-- The handler of the byte 0xCB reads no more than the row of its sub-opcode. -/
theorem exec_withOpcode (i : Instr) (s : State) (b : Byte) :
    exec i (s.withOpcode b) = outcomeWithOpcode b (exec i s) := by
  cases i
  case prefixCb sub =>
    obtain ⟨hwf, -⟩ := cbInstr_encodes sub
    rw [exec_prefixCb_eq_exec_cbInstr, exec_prefixCb_eq_exec_cbInstr]
    exact exec_withOpcode_of_wellFormed hwf s b
  all_goals exact exec_withOpcode_of_wellFormed rfl s b

/-- Settles O53: the outcome with another CurrentOpcode is the outcome, that field aside. -/
theorem noInstructionReadsCurrentOpcode : Obligations.NoInstructionReadsCurrentOpcode := by
  unfold Obligations.NoInstructionReadsCurrentOpcode
  intro i s t b h
  exact (exec_withOpcode i s b).trans (congrArg (outcomeWithOpcode b) h)

end Sys2Proof.Machine
end

section
/-!
PROOFS. The operations that EXT_LR35902 enables (spec/47_unimplemented_and_ext.md sections 2 to 7).
-/

namespace Sys2Proof.Machine

/-- With the extension an instruction does what its meaning says (R350). -/
theorem exec_next_of_withExt {i : Instr} {s : State} {m : State → Outcome} {P : State → Prop}
    (hext : s.params.ext = true) (hexec : exec i s = withExt s m)
    (hnext : ∃ t, m s = .next t ∧ P t) : ∃ t, exec i s = .next t ∧ P t := by
  rwa [hexec, withExt_true hext]

/-! ## The bits of a rotate or a shift by one -/

/-- Shifting up brings a bit in below. -/
theorem shiftLeft_or_bit (v : Byte) (c : Bool) :
    v <<< 1 ||| (if c then 1 else 0) = v.extractLsb' 0 7 ++ BitVec.ofBool c := by
  ext i hi
  rw [BitVec.getElem_append]
  obtain _ | i := i
  · cases c <;> simp
  · have hlt : i < 8 := by omega
    cases c <;> simp [hlt]

/-- Shifting down brings a bit in above. -/
theorem ushiftRight_or_bit (v : Byte) (c : Bool) :
    v >>> 1 ||| (if c then 1 else 0 : Byte) <<< 7 = BitVec.ofBool c ++ v.extractLsb' 1 7 := by
  ext i hi
  rw [BitVec.getElem_append]
  by_cases h : i < 7
  · simp [h]
  · obtain rfl : i = 7 := by omega
    cases c <;> simp

/-- Shifting down with bit 7 kept is the arithmetic shift. -/
theorem ushiftRight_or_sign (v : Byte) : v >>> 1 ||| v &&& 0x80 = v.sshiftRight 1 := by
  have hmask : ∀ k : Fin 8, (0x80#8)[k] = decide (k = 7) := by decide
  ext i hi
  have hbit : (0x80#8)[i] = decide (i = 7) := by simpa [Fin.ext_iff] using hmask ⟨i, hi⟩
  by_cases h : i = 7
  · simp [BitVec.getElem_sshiftRight, h, BitVec.msb_eq_getLsbD_last]
  · simp [BitVec.getElem_sshiftRight, hbit, h, show 1 + i < 8 by omega]

/-- A rotate or shift gives the value `r`, with `out` shifted out into Carry. -/
def ShiftsTo (op : ShiftOp) (f v r : Byte) (out : Bool) : Prop :=
  shiftResult op f v = ⟨r, shiftFlags r out⟩

theorem shiftsTo_rlc (f v : Byte) : ShiftsTo .rlc f v (v.rotateLeft 1) (v.getLsbD 7) := rfl

theorem shiftsTo_rrc (f v : Byte) : ShiftsTo .rrc f v (v.rotateRight 1) (v.getLsbD 0) := rfl

theorem shiftsTo_rl (f v : Byte) :
    ShiftsTo .rl f v (v.extractLsb' 0 7 ++ BitVec.ofBool (flagC f)) (v.getLsbD 7) := by
  rw [← shiftLeft_or_bit]
  rfl

theorem shiftsTo_rr (f v : Byte) :
    ShiftsTo .rr f v (BitVec.ofBool (flagC f) ++ v.extractLsb' 1 7) (v.getLsbD 0) := by
  rw [← ushiftRight_or_bit]
  rfl

theorem shiftsTo_sla (f v : Byte) : ShiftsTo .sla f v (v.extractLsb' 0 7 ++ 0#1) (v.getLsbD 7) := by
  have hzero : v <<< 1 = v.extractLsb' 0 7 ++ 0#1 := by simpa using shiftLeft_or_bit v false
  rw [← hzero]
  rfl

theorem shiftsTo_sra (f v : Byte) : ShiftsTo .sra f v (v.sshiftRight 1) (v.getLsbD 0) := by
  rw [← ushiftRight_or_sign]
  rfl

theorem shiftsTo_srl (f v : Byte) : ShiftsTo .srl f v (0#1 ++ v.extractLsb' 1 7) (v.getLsbD 0) := by
  have hzero : v >>> 1 = 0#1 ++ v.extractLsb' 1 7 := by simpa using ushiftRight_or_bit v false
  rw [← hzero]
  rfl

/-! ## Rotates of A -/

/-- A rotate of A is the CB rotate with Zero cleared. -/
theorem rotateA_next_of_shiftsTo {op : ShiftOp} {s : State} {r : Byte} {out : Bool}
    (h : ShiftsTo op (s.reg8 .f) (s.reg8 .a) r out) :
    ∃ t, rotateA op s = .next t ∧ t.reg8 .a = r ∧ t.reg8 .f = flagByte false false false out ∧
      s.KeepsRegsBut t [.a, .f] ∧ t.sp = s.sp ∧ t.pc = s.pc + 1 ∧ s.KeepsMemory t ∧
      s.KeepsControl t := by
  have hrotate : accRotate op (s.reg8 .f) (s.reg8 .a) = ⟨r, flagByte false false false out⟩ := by
    rw [accRotate, h, shiftFlags, flagC_flagByte]
  have hnext := rotateA_next op s
  rwa [hrotate] at hnext

/-- Settles O42: the rotates of A are the CB rotates of it, Zero aside. -/
theorem accumulatorRotates : Obligations.AccumulatorRotates := by
  unfold Obligations.AccumulatorRotates
  intro s hext p hp
  fin_cases hp
  · exact exec_next_of_withExt hext rfl (rotateA_next_of_shiftsTo (shiftsTo_rlc ..))
  · exact exec_next_of_withExt hext rfl (rotateA_next_of_shiftsTo (shiftsTo_rrc ..))
  · exact exec_next_of_withExt hext rfl (rotateA_next_of_shiftsTo (shiftsTo_rl ..))
  · exact exec_next_of_withExt hext rfl (rotateA_next_of_shiftsTo (shiftsTo_rr ..))

/-! ## CB rotates and shifts -/

theorem exec_cbShift_next {op : ShiftOp} {x : Target} {s : State} {r : Byte} {out : Bool}
    (hext : s.params.ext = true) (hop : op ≠ .swap)
    (h : ShiftsTo op (s.reg8 .f) (s.target x) r out) :
    ∃ t, exec (.cbShift op x) s = .next t ∧ t.target x = r ∧
      t.reg8 .f = flagByte (decide (r = 0)) false false out ∧
      s.KeepsRegsBut t (.f :: targetRegs x) ∧ s.KeepsMemoryBut t (s.targetAddrs x) ∧ t.sp = s.sp ∧
      t.pc = s.pc + 2 ∧ s.KeepsControl t := by
  have hnext := shiftTarget_next op x s
  rw [h] at hnext
  exact exec_next_of_withExt hext (exec_cbShift hop x s) hnext

/-- Settles O45: each operation by its bits. -/
theorem prefixedRotatesAndShifts : Obligations.PrefixedRotatesAndShifts := by
  unfold Obligations.PrefixedRotatesAndShifts
  intro x s hext p hp
  fin_cases hp
  · exact exec_cbShift_next (op := .rlc) hext (by decide) (shiftsTo_rlc ..)
  · exact exec_cbShift_next (op := .rrc) hext (by decide) (shiftsTo_rrc ..)
  · exact exec_cbShift_next (op := .rl) hext (by decide) (shiftsTo_rl ..)
  · exact exec_cbShift_next (op := .rr) hext (by decide) (shiftsTo_rr ..)
  · exact exec_cbShift_next (op := .sla) hext (by decide) (shiftsTo_sla ..)
  · exact exec_cbShift_next (op := .sra) hext (by decide) (shiftsTo_sra ..)
  · exact exec_cbShift_next (op := .srl) hext (by decide) (shiftsTo_srl ..)

/-! ## `BIT`, `RES` and `SET` -/

theorem getLsbD_one_shiftLeft (b k : Fin 8) : (1#8 <<< b.val).getLsbD k = decide (k = b) := by
  decide +revert

theorem getLsbD_clearBit (v : Byte) (b k : Fin 8) :
    (v &&& ~~~(1#8 <<< b.val)).getLsbD k = if k = b then false else v.getLsbD k := by
  rw [BitVec.getLsbD_and, BitVec.getLsbD_not, getLsbD_one_shiftLeft]
  by_cases h : k = b <;> simp [h]

theorem getLsbD_setBit (v : Byte) (b k : Fin 8) :
    (v ||| 1#8 <<< b.val).getLsbD k = if k = b then true else v.getLsbD k := by
  rw [BitVec.getLsbD_or, getLsbD_one_shiftLeft]
  by_cases h : k = b <;> simp [h]

/-- Settles O46: `BIT` writes F; the masks of `RES` and `SET` have the one bit. -/
theorem bitOperations : Obligations.BitOperations := by
  unfold Obligations.BitOperations
  intro b x s hext
  obtain ⟨hbit, hres, hset⟩ := exec_cbBit_cbRes_cbSet b x s
  refine ⟨exec_next_of_withExt hext hbit (testBit_next b x s), fun p hp => ?_⟩
  fin_cases hp
  · refine exec_next_of_withExt hext hres ?_
    obtain ⟨t, hnext, htarget, hrest⟩ := resetBit_next b x s
    exact ⟨t, hnext, fun k => htarget ▸ getLsbD_clearBit _ b k, hrest⟩
  · refine exec_next_of_withExt hext hset ?_
    obtain ⟨t, hnext, htarget, hrest⟩ := setBit_next b x s
    exact ⟨t, hnext, fun k => htarget ▸ getLsbD_setBit _ b k, hrest⟩

/-! ## `DAA`, `CPL`, `SCF` and `CCF` -/

theorem daa8_flags (f a : Byte) :
    (daa8 f a).flags = flagByte (decide ((daa8 f a).result = 0)) (flagN f) false
      (flagC f || (!flagN f && decide (0x99 < a.toNat))) := by
  unfold daa8
  cases flagN f with
  | true => simp [zeroFlag_eq_decide]
  | false => simp [zeroFlag_eq_decide]

theorem daa_next {s : State} (hext : s.params.ext = true) :
    ∃ t, exec .daa s = .next t ∧ t.reg8 .a = (daa8 (s.reg8 .f) (s.reg8 .a)).result ∧
      t.reg8 .f = flagByte (decide (t.reg8 .a = 0)) (flagN (s.reg8 .f)) false
        (flagC (s.reg8 .f) || (!flagN (s.reg8 .f) && decide (0x99 < (s.reg8 .a).toNat))) ∧
      s.KeepsRegsBut t [.a, .f] ∧ t.sp = s.sp ∧ t.pc = s.pc + 1 ∧ s.KeepsMemory t ∧
      s.KeepsControl t := by
  refine exec_next_of_withExt hext rfl ?_
  obtain ⟨t, hnext, ha, hf, hrest⟩ := decimalAdjust_next s
  exact ⟨t, hnext, ha, by rw [hf, ha, daa8_flags], hrest⟩

theorem cpl_next {s : State} (hext : s.params.ext = true) :
    ∃ t, exec .cpl s = .next t ∧ t.reg8 .a = ~~~(s.reg8 .a) ∧
      t.reg8 .f = flagByte (flagZ (s.reg8 .f)) true true (flagC (s.reg8 .f)) ∧
      s.KeepsRegsBut t [.a, .f] ∧ t.sp = s.sp ∧ t.pc = s.pc + 1 ∧ s.KeepsMemory t ∧
      s.KeepsControl t := by
  rw [← BitVec.xor_allOnes]
  exact exec_next_of_withExt hext rfl (complementA_next s)

/-- Settles O43: each operation's own rule. -/
theorem accumulatorAndCarryInstructions : Obligations.AccumulatorAndCarryInstructions := by
  unfold Obligations.AccumulatorAndCarryInstructions
  refine fun s hext => ⟨daa_next hext, cpl_next hext, fun p hp => ?_⟩
  fin_cases hp
  · exact exec_next_of_withExt hext rfl (setCarry_next s)
  · exact exec_next_of_withExt hext rfl (complementCarry_next s)

/-! ## SP plus a displacement -/

theorem spDisplacementFlags_eq (sp : Word) (e : Byte) :
    spDisplacementFlags sp e = flagByte false false (decide (15 < sp.toNat % 16 + e.toNat % 16))
      (decide (255 < sp.toNat % 256 + e.toNat)) := by
  have hsp4 : (sp &&& 0xF).toNat = sp.toNat % 16 := (BitVec.toNat_and sp 0xF).trans (nat_and_0xF _)
  have hsp8 : (sp &&& 0xFF).toNat = sp.toNat % 256 :=
    (BitVec.toNat_and sp 0xFF).trans (Nat.and_two_pow_sub_one_eq_mod sp.toNat 8)
  rw [spDisplacementFlags, hsp4, toNat_and_0xF, hsp8]

/-- Settles O44: the sum as integers, the flags as natural numbers. -/
theorem stackPointerPlusDisplacement : Obligations.StackPointerPlusDisplacement := by
  unfold Obligations.StackPointerPlusDisplacement
  intro e s hext p hp
  rw [← add_sext16_eq_ofInt, ← spDisplacementFlags_eq]
  fin_cases hp
  · exact exec_next_of_withExt hext rfl (addSPTo_next .sp e s)
  · exact exec_next_of_withExt hext rfl (addSPTo_next .hl e s)

end Sys2Proof.Machine
end

section
/-!
PROOFS. The step over the reference table and over any other (spec/41_step_and_dispatch.md): the one is a
case of the other, so what the handler contract gives a table it gives the machine's own step.
-/

namespace Sys2Proof.Machine

/-! ## The reference table -/

theorem handlerOutcome_next_of_run_ne {t : State} (h : t.run ≠ .faulted) :
    handlerOutcome (.next t) = .completes t := if_neg h

theorem handlerOutcome_takeFault (s : State) (k : Fault) :
    handlerOutcome (.next (s.takeFault k)) = .raises  := by
  rw [handlerOutcome, if_pos (takeFault_run s k)]

/-- Only a next state that is not faulted counts as completed. -/
theorem handlerOutcome_eq_completes {o : Outcome} {t : State} (h : handlerOutcome o = .completes t) :
    o = .next t ∧ t.run ≠ .faulted := by
  cases o with
  | next u =>
    by_cases hrun : u.run = .faulted
    · rw [handlerOutcome, if_pos hrun] at h
      cases h
    · rw [handlerOutcome_next_of_run_ne hrun] at h
      cases h
      exact ⟨rfl, hrun⟩
  | fault k | refused r => cases h

/-- Every handler of DT_REF keeps the contract (R175). -/
theorem obeysContract_dtRef (op : Byte) : ObeysContract (dtRef op) := by
  intro s t h
  obtain ⟨hexec, hrun⟩ := handlerOutcome_eq_completes h
  obtain ⟨u, hu, hend⟩ := exec_handles _ s
  obtain rfl : t = u := Host.Outcome.next.inj (hexec.symm.trans hu)
  obtain hwrites | rfl := hend
  · exact hwrites
  · exact absurd (takeFault_run ..) hrun

/-- The two agree where a handler is entered: run state `ready` tells a completion from a raise. -/
theorem stepWith_dtRef (s : State) : stepWith dtRef s = step s := by
  by_cases hrun : s.run = .ready
  · obtain ⟨t, hexec, hwrites | rfl⟩ := exec_handles s.fetchInstr s.beginStep
    · have htrun : t.run ≠ .faulted := by simp [hwrites.keeps.control.run, hrun]
      have hdt : dtRef s.opcodeByte s.beginStep = .completes t :=
        (congrArg handlerOutcome hexec).trans (handlerOutcome_next_of_run_ne htrun)
      simp only [stepWith, step, hdt, hexec, endOutcome]
    · have hdt : dtRef s.opcodeByte s.beginStep = .raises :=
        (congrArg handlerOutcome hexec).trans (handlerOutcome_takeFault ..)
      simp only [stepWith, step, hdt, hexec, endOutcome, endStep_takeFault]
  · simp [stepWith, step, hrun]

/-- Settles O54: the step is `stepWith` of DT_REF, whose handlers end in writes or in the fault. -/
theorem stepIsTheStepOverTheReferenceTable : Obligations.StepIsTheStepOverTheReferenceTable :=
  ⟨stepWith_dtRef, obeysContract_dtRef⟩

/-! ## A step over any table -/

/-- How a step over a table that keeps the contract ends: in the handler's writes, in a raise or in the
guard's fault (R171, R174, R175, R179). -/
inductive StepEnds (s : State) : State → Prop where
  | completed {u : State} (hpc : s.pc.toNat < 0x8000) (h : Writes s.beginStep u) : StepEnds s u.endStep
  | raised (hpc : s.pc.toNat < 0x8000) :
    StepEnds s (s.beginStep.endStep.takeFault .unimplementedOperation)
  | stopped (hpc : ¬ s.pc.toNat < 0x8000) : StepEnds s (s.takeFault .outOfRangePC)

theorem stepEnds_of_stepWith {dt : DispatchTable} (hdt : ∀ op, ObeysContract (dt op)) {s t : State}
    (h : stepWith dt s = .next t) : s.run = .ready ∧ s.stepState = .idle ∧ StepEnds s t := by
  unfold stepWith at h
  split at h
  · cases h
  · next hrun =>
    split at h
    · cases h
    · next hidle =>
      refine ⟨not_not.mp hrun, not_not.mp hidle, ?_⟩
      split at h
      · next hpc =>
        rw [fetchable_iff] at hpc
        split at h
        · next u hu =>
          cases h
          exact .completed hpc (hdt _ _ _ hu)
        · cases h
          exact .raised hpc
      · next hpc =>
        rw [fetchable_iff] at hpc
        cases h
        exact .stopped hpc

theorem stepEnds_of_step {s t : State} (h : step s = .next t) :
    s.run = .ready ∧ s.stepState = .idle ∧ StepEnds s t :=
  stepEnds_of_stepWith obeysContract_dtRef ((stepWith_dtRef s).trans h)

/-! ## The outcomes of a step -/

/-- Settles O51: in run state ready and step state idle the handler answers a next state, and so does the
guard. -/
theorem stepAnswersExactlyWhenReady : Obligations.StepAnswersExactlyWhenReady := by
  unfold Obligations.StepAnswersExactlyWhenReady
  refine fun s => ⟨fun hrun hidle => ?_, step_of_not_ready, step_of_dispatching⟩
  cases hpc : fetchable s.pc with
  | true =>
    obtain ⟨t, hexec, -⟩ := exec_handles s.fetchInstr s.beginStep
    rw [step_of_fetchable hrun hidle hpc, hexec]
    exact ⟨t.endStep, rfl⟩
  | false => exact ⟨_, step_of_unfetchable hrun hidle hpc⟩

/-- Settles O47: the bytes at pc decode to the instruction that the step runs. -/
theorem stepRunsTheDecodedInstruction : Obligations.StepRunsTheDecodedInstruction := by
  unfold Obligations.StepRunsTheDecodedInstruction
  intro s i rest hrun hidle hpc hdecode
  obtain ⟨rfl, -⟩ := Prod.mk.inj (Except.ok.inj ((decode_fetchBytes s).symm.trans hdecode))
  rw [step_of_fetchable hrun hidle ((fetchable_iff s.pc).mpr hpc)]
  rfl

/-! ## Faults -/

/-- What a step that leaves the machine faulted keeps (spec/60_exceptions.md R403, R411). -/
theorem StepEnds.precise {s t : State} (h : StepEnds s t) (hrun : s.run = .ready)
    (hfaulted : t.run = .faulted) :
    s.KeepsRegsBut t [] ∧ t.sp = s.sp ∧ t.pc = s.pc ∧ t.mem = s.mem ∧
      t.fault = some (if s.pc.toNat < 0x8000 then .unimplementedOperation else .outOfRangePC) ∧
      t.currentOpcode = (if s.pc.toNat < 0x8000 then s.readU8 s.pc else s.currentOpcode) := by
  cases h with
  | completed hpc h =>
    rw [endStep_run, h.keeps.control.run, beginStep_run, hrun] at hfaulted
    cases hfaulted
  | raised hpc =>
    rw [if_pos hpc, if_pos hpc]
    exact ⟨fun r _ => by simp, rfl, rfl, rfl, rfl, rfl⟩
  | stopped hpc =>
    rw [if_neg hpc, if_neg hpc]
    exact ⟨fun r _ => by simp, rfl, rfl, rfl, rfl, rfl⟩

/-- Settles O52: a completed step is still ready, and the two faults write nothing. -/
theorem faultsArePrecise : Obligations.FaultsArePrecise := by
  unfold Obligations.FaultsArePrecise
  constructor
  · intro s t hstep hfaulted
    obtain ⟨hrun, -, hend⟩ := stepEnds_of_step hstep
    exact hend.precise hrun hfaulted
  · intro dt s t hdt hstep hfaulted
    obtain ⟨hrun, -, hend⟩ := stepEnds_of_stepWith hdt hstep
    exact hend.precise hrun hfaulted

/-! ## The invariant -/

theorem takeFault_inv {s : State} (k : Fault) (h : s.Inv) : (s.takeFault k).Inv := by
  obtain ⟨hwf, hlow, -, hidle⟩ := h
  exact ⟨hwf, by simpa using hlow, by simp, hidle⟩

/-- The step state is `dispatching` while a handler runs, and idle again at the end. -/
theorem endStep_inv {s u : State} (hs : s.Inv) (h : Keeps s.beginStep u) : u.endStep.Inv := by
  obtain ⟨hwf, hlow, hfault, -⟩ := hs
  refine ⟨h.wf hwf, ?_, ?_, rfl⟩
  · rw [reg8_endStep]
    exact h.low (by simpa using hlow)
  · rw [endStep_fault, endStep_run, h.control.fault, h.control.run]
    exact hfault

theorem StepEnds.inv {s t : State} (h : StepEnds s t) (hs : s.Inv) : t.Inv := by
  cases h with
  | completed _ h => exact endStep_inv hs h.keeps
  | raised => exact takeFault_inv _ (endStep_inv hs (Keeps.refl _))
  | stopped => exact takeFault_inv _ hs

theorem stepWith_inv {dt : DispatchTable} (hdt : ∀ op, ObeysContract (dt op)) {s t : State} (hs : s.Inv)
    (h : stepWith dt s = .next t) : t.Inv := by
  obtain ⟨-, -, hend⟩ := stepEnds_of_stepWith hdt h
  exact hend.inv hs

theorem step_inv {s t : State} (hs : s.Inv) (h : step s = .next t) : t.Inv :=
  stepWith_inv obeysContract_dtRef hs ((stepWith_dtRef s).trans h)

/-- Settles O55: each way a step can end keeps the invariant, and DT_REF is one of the tables. -/
theorem stepKeepsTheInvariant : Obligations.StepKeepsTheInvariant := by
  unfold Obligations.StepKeepsTheInvariant
  exact ⟨fun _ _ => step_inv, fun _ _ _ hdt => stepWith_inv hdt⟩

end Sys2Proof.Machine
end

section
/-!
PROOFS. Memory as a value, reset, the ROM load and the host's transactions
(spec/70_reset_and_hazards.md; spec/10_state.md sections 6 and 8).
-/

namespace Sys2Proof.Machine

/-! ## The canonical form of memory -/

/-- An address below every listed one reads as unwritten. -/
theorem Memory.read_of_forall_lt {m : Memory} {a : Nat} (h : ∀ c ∈ m, a < c.1) :
    m.read a = Config.memInit := by
  induction m with
  | nil => rfl
  | cons c m ih =>
    obtain ⟨hc, hm⟩ := List.forall_mem_cons.mp h
    rw [Memory.read, if_neg (Nat.ne_of_gt hc), ih hm]

theorem Memory.read_cons_self (c : Host.Cell) (m : Memory) : Memory.read (c :: m) c.1 = c.2 :=
  if_pos rfl

theorem Memory.read_cons_ne {c : Host.Cell} {a : Nat} (h : c.1 ≠ a) (m : Memory) :
    Memory.read (c :: m) a = m.read a :=
  if_neg h

/-- The parts of the canonical form of a list with a first entry. -/
theorem Memory.wf_cons {c : Host.Cell} {m : Memory} (h : Memory.wf (c :: m)) :
    (∀ d ∈ m, c.1 < d.1) ∧ c.2 ≠ Config.memInit ∧ Memory.wf m := by
  obtain ⟨hsorted, hentries⟩ := h
  obtain ⟨hlt, hsorted⟩ := List.pairwise_cons.mp hsorted
  obtain ⟨⟨-, hne⟩, hentries⟩ := List.forall_mem_cons.mp hentries
  exact ⟨hlt, hne, hsorted, hentries⟩

/-- The first entry's byte shows in a memory that lists no address as low. -/
theorem Memory.read_cons_self_ne {c : Host.Cell} {m n : Memory} (hc : c.2 ≠ Config.memInit)
    (hn : ∀ d ∈ n, c.1 < d.1) : Memory.read (c :: m) c.1 ≠ n.read c.1 := by
  rw [Memory.read_cons_self, Memory.read_of_forall_lt hn]
  exact hc

/-- By induction on the sorted lists: the lower of two different first addresses would read differently. -/
theorem Memory.eq_of_read_eq {m n : Memory} (hm : m.wf) (hn : n.wf)
    (h : ∀ a, m.read a = n.read a) : m = n := by
  induction m generalizing n with
  | nil =>
    cases n with
    | nil => rfl
    | cons d n =>
      obtain ⟨-, hd, -⟩ := Memory.wf_cons hn
      exact absurd (h d.1).symm (Memory.read_cons_self_ne hd (by simp))
  | cons c m ih =>
    obtain ⟨hcm, hc, hmtail⟩ := Memory.wf_cons hm
    cases n with
    | nil => exact absurd (h c.1) (Memory.read_cons_self_ne hc (by simp))
    | cons d n =>
      obtain ⟨hdn, hd, hntail⟩ := Memory.wf_cons hn
      have below {c d : Host.Cell} {n : Memory} (hlt : c.1 < d.1) (hdn : ∀ e ∈ n, d.1 < e.1) :
          ∀ e ∈ d :: n, c.1 < e.1 :=
        List.forall_mem_cons.mpr ⟨hlt, fun e he => hlt.trans (hdn e he)⟩
      obtain hlt | heq | hgt := lt_trichotomy c.1 d.1
      · exact absurd (h c.1) (Memory.read_cons_self_ne hc (below hlt hdn))
      · have hbyte : c.2 = d.2 := by
          have := h c.1
          rwa [Memory.read_cons_self, heq, Memory.read_cons_self] at this
        obtain rfl : c = d := Prod.ext heq hbyte
        congr 1
        refine ih hmtail hntail fun a => ?_
        by_cases ha : c.1 = a
        · subst ha
          rw [Memory.read_of_forall_lt hcm, Memory.read_of_forall_lt hdn]
        · rw [← Memory.read_cons_ne ha m, h a, Memory.read_cons_ne ha n]
      · exact absurd (h d.1).symm (Memory.read_cons_self_ne hd (below hgt hcm))

/-- Settles O11: by induction on the two sorted lists. -/
theorem canonicalMemoriesAreEqual : Obligations.CanonicalMemoriesAreEqual := by
  unfold Obligations.CanonicalMemoriesAreEqual
  exact fun _ _ => Memory.eq_of_read_eq

/-! ## Reset -/

/-- Settles O56: no byte is listed, and F is `0xB0`. -/
theorem resetMeetsTheInvariant : Obligations.ResetMeetsTheInvariant := by
  unfold Obligations.ResetMeetsTheInvariant
  have hrun : State.reset.fault = none ↔ State.reset.run ≠ .faulted := iff_of_true rfl (by decide)
  exact ⟨Memory.wf_nil, rfl, hrun, rfl⟩

/-- Settles O57: the values as State.reset has them, and the empty list reads as MEM_INIT. -/
theorem resetValues : Obligations.ResetValues := by
  unfold Obligations.ResetValues
  exact ⟨rfl, rfl, rfl, rfl, rfl, rfl, rfl, rfl, rfl, fun a => Memory.read_nil a.toNat⟩

/-! ## The ROM load -/

theorem Memory.read_load_of_lt (m : Memory) {base a : Nat} (image : List Byte) (h : a < base) :
    (m.load base image).read a = m.read a := by
  induction image generalizing m base with
  | nil => rfl
  | cons v image ih =>
    rw [Memory.load, ih _ (Nat.lt_succ_of_lt h), Memory.read_write_ne _ _ (Nat.ne_of_lt h)]

/-- A loaded image stands from the base address on, and the bytes after it stay (R431). -/
theorem Memory.read_load_add (m : Memory) (base : Nat) (image : List Byte) (k : Nat) :
    (m.load base image).read (base + k) = image[k]?.getD (m.read (base + k)) := by
  induction image generalizing m base k with
  | nil => rfl
  | cons v image ih =>
    rw [Memory.load]
    cases k with
    | zero =>
      change ((m.write base v).load (base + 1) image).read base = v
      rw [Memory.read_load_of_lt _ _ (Nat.lt_add_one base), Memory.read_write_same]
    | succ k =>
      have haddr : base + (k + 1) = base + 1 + k := by omega
      rw [haddr, ih, List.getElem?_cons_succ, Memory.read_write_ne _ _ (by omega)]

theorem Memory.read_load_zero (m : Memory) (image : List Byte) (a : Nat) :
    (m.load 0 image).read a = if h : a < image.length then image[a] else m.read a := by
  have hread := Memory.read_load_add m 0 image a
  rw [Nat.zero_add] at hread
  rw [hread]
  split
  · next h => rw [List.getElem?_eq_getElem h, Option.getD_some]
  · next h => rw [List.getElem?_eq_none (Nat.not_lt.mp h), Option.getD_none]

theorem loadRom_of_accepted (s : State) {image : List Byte} (h : image.length ≤ 32768) :
    s.loadRom image = { State.reset with mem := s.mem.load 0 image, params := s.params } :=
  if_pos (decide_eq_true h)

theorem loadRom_of_refused (s : State) {image : List Byte} (h : 32768 < image.length) :
    s.loadRom image = { s with run := .unloaded, fault := none } :=
  if_neg fun haccepted => absurd (of_decide_eq_true haccepted) (Nat.not_le.mpr h)

/-- Settles O58: the two branches of the load, and the image read back. -/
theorem romLoad : Obligations.RomLoad := by
  unfold Obligations.RomLoad
  refine fun s image => ⟨fun h => ?_, loadRom_of_refused s⟩
  rw [loadRom_of_accepted s h]
  exact ⟨fun a => Memory.read_load_zero s.mem image a.toNat, rfl⟩

theorem loadRom_inv {s : State} (hs : s.Inv) (image : List Byte) : (s.loadRom image).Inv := by
  obtain ⟨hwf, hlow, -, hidle⟩ := hs
  obtain h | h := Nat.lt_or_ge 32768 image.length
  · rw [loadRom_of_refused s h]
    exact ⟨hwf, hlow, iff_of_true rfl (by simp), hidle⟩
  · rw [loadRom_of_accepted s h]
    have hfits : 0 + image.length ≤ Config.memSize := by
      simp only [Config.memSize]
      omega
    obtain ⟨-, hlow, hrun, hidle⟩ := resetMeetsTheInvariant
    exact ⟨Memory.load_wf hwf hfits, hlow, hrun, hidle⟩

/-! ## The host's transactions -/

/-- What a step leaves the host with: the state after it, or the state it was refused in. -/
theorem stepReply_state (s : State) :
    step s = .next (stepReply s (step s)).1 ∨ (stepReply s (step s)).1 = s := by
  cases h : step s with
  | next t =>
    left
    cases hf : t.fault <;> simp [stepReply, hf]
  | fault k | refused r => exact .inr rfl

theorem stepReply_inv {s : State} (hs : s.Inv) : (stepReply s (step s)).1.Inv := by
  obtain hnext | hsame := stepReply_state s
  · exact step_inv hs hnext
  · rwa [hsame]

theorem powerOn_inv : State.powerOn.Inv :=
  ⟨Memory.wf_nil, low_maskAF _, iff_of_true rfl (by decide), rfl⟩

/-- A transaction other than the load, the step and the end reads, or writes through the accessors
(R443 to R445). -/
theorem State.perform_writes (s : State) {x : Transaction} (hload : ∀ image, x ≠ .loadROM image)
    (hstep : x ≠ .step) (hend : x ≠ .destroyMachine) :
    ∃ t, (s.perform x).1 = some t ∧ Writes s t := by
  cases x
  case loadROM image => exact absurd rfl (hload image)
  case step => exact absurd rfl hstep
  case destroyMachine => exact absurd rfl hend
  case writeReg8 r v => exact ⟨_, rfl, Writes.refl.setReg8 r v⟩
  case writeReg16 p w => exact ⟨_, rfl, Writes.refl.setReg16 p w⟩
  case writeU8 a v => exact ⟨_, rfl, Writes.refl.writeU8 a v⟩
  case writeU16 a v => exact ⟨_, rfl, Writes.refl.writeU16 a v⟩
  case setIE v | setIF v => exact ⟨_, rfl, Writes.refl.writeU8 _ v⟩
  all_goals exact ⟨s, rfl, .refl⟩

theorem State.perform_inv {s t : State} (hs : s.Inv) {x : Transaction} (h : (s.perform x).1 = some t) :
    t.Inv := by
  by_cases hload : ∃ image, x = .loadROM image
  · obtain ⟨image, rfl⟩ := hload
    cases h
    exact loadRom_inv hs image
  · by_cases hstep : x = .step
    · subst hstep
      cases h
      exact stepReply_inv hs
    · by_cases hend : x = .destroyMachine
      · subst hend
        cases h
      · obtain ⟨u, hu, hwrites⟩ := s.perform_writes (not_exists.mp hload) hstep hend
        obtain rfl : u = t := Option.some.inj (hu.symm.trans h)
        exact hwrites.keeps.inv hs

/-- Settles O60: with no machine only power-on makes one, and between steps each transaction keeps the
invariant. -/
theorem hostKeepsTheInvariant : Obligations.HostKeepsTheInvariant := by
  unfold Obligations.HostKeepsTheInvariant
  refine ⟨powerOn_inv, fun m x hm t h => ?_⟩
  cases m with
  | none =>
    cases x <;> cases h
    exact powerOn_inv
  | some s =>
    obtain ⟨-, -, -, hidle⟩ := hm s rfl
    rw [perform, if_pos hidle] at h
    exact State.perform_inv (hm s rfl) h

/-- In run state faulted the step is refused, and what is left keeps the special registers (R444). -/
theorem State.perform_keepsControl {s : State} (hrun : s.run = .faulted) {x : Transaction}
    (hload : ∀ image, x ≠ .loadROM image) (hend : x ≠ .destroyMachine) :
    ∃ t, (s.perform x).1 = some t ∧ s.KeepsControl t := by
  by_cases hstep : x = .step
  · subst hstep
    have hrefused : step s = .refused .notReady := step_of_not_ready (by simp [hrun])
    refine ⟨s, ?_, (Keeps.refl s).control⟩
    rw [State.perform, hrefused]
    rfl
  · obtain ⟨t, hperform, hwrites⟩ := s.perform_writes hload hstep hend
    exact ⟨t, hperform, hwrites.keeps.control⟩

/-- Settles O59: the transactions in question keep the special registers. -/
theorem faultIsSticky : Obligations.FaultIsSticky := by
  unfold Obligations.FaultIsSticky
  intro s x hrun hload hend
  by_cases hidle : s.stepState = .idle
  · obtain ⟨t, hperform, hcontrol⟩ := State.perform_keepsControl hrun hload hend
    rw [perform, if_pos hidle]
    exact ⟨t, hperform, hcontrol.run.trans hrun, hcontrol.fault⟩
  · rw [perform, if_neg hidle]
    exact ⟨s, rfl, hrun, rfl⟩

end Sys2Proof.Machine
end
